-- ==== Sys2Proof/Word.lean ====
section
/-! DEFINITION. Word.lean: the words, bytes and numbers of the QM4's bus, cells and tables
(spec/00_scope.md, Conventions; spec/11). -/

namespace Sys2Proof

/-- A bus word: one 32-bit access at a port (spec/00, Conventions). -/
abbrev Word := BitVec 32

/-- A byte of a bus word or of the cell store. -/
abbrev Byte := BitVec 8

/-- The four byte strobes of a bus write; bit `j` is lane `j`, lane 0 the least significant
byte (R33, R170). A set bit is an active strobe. -/
abbrev Strobes := BitVec 4

/-- A set of ports; bit `i` names port `i` (R171). -/
abbrev PortSet := BitVec 4

/-- Port 0 to port 3. -/
abbrev Port := Fin 4

/-- Queue 0 to queue 63. -/
abbrev QueueNo := Fin 64

/-- Holding slot 0 to 31 of a port (R25). -/
abbrev SlotNo := Fin 32

/-- Cell 0 to cell 4095; a message is named by the number of its first cell (R1, R20). -/
abbrev CellNo := Fin 4096

/-- Cell word 0 to 7 of a cell (R1). -/
abbrev WordNo := Fin 8

/-- A handle: slot + 32 × generation, one byte (R28). -/
abbrev Handle := BitVec 8

/-- A stored cell word: 64 data bits (bits 63 to 0) and the check byte (bits 71 to 64) (R1). -/
abbrev CellWord := BitVec 72

/-- The byte offset of an access inside the 2048-byte port window (spec/11). -/
abbrev WindowOffset := BitVec 11

/-- The byte offset of an access inside the 1024-byte data window (R33). -/
abbrev DataOffset := BitVec 10

/-- The byte offset of an access below the data window: the register area and the unassigned span,
000h to 3FFh (R169). -/
abbrev RegisterOffset := BitVec 10

/-- The four ports in ascending order. -/
def Port.all : List Port := [0, 1, 2, 3]

end Sys2Proof
end

