-- ==== Sys2Proof/Syntax.lean ====
section
/-! DEFINITION. Syntax.lean: the commands of the block, one constructor for each row of
spec/opcode_table.json. The table gives the rows no fields. Each operand here is what the row's
rule needs from outside the part's own state (log 21). -/

namespace Sys2Proof

/-- The commands of the command word (spec/11, Command word and operand words). -/
inductive CommandCode where
  | allocate | put | take | release | renew | giveBack | query | claim | unclaim
  | format | defineQueue | modifyQueue | purgeQueue | deleteQueue | setPort
  | fencePort | unfencePort | resetPort
  deriving DecidableEq, Repr

/-- An entry of the control store that carries parity: a message record, named by its message
number, or the free-list link of a cell (R165). -/
inductive ControlEntry where
  | record (m : CellNo)
  | link (c : CellNo)
  deriving DecidableEq, Repr

/-- The control-store entry whose parity has been upset since the last event, if any (log 11). -/
abbrev Upset := Option ControlEntry

/-- The stored bits of one cell word that have flipped since it was last written (log 10). -/
abbrev Flips := CellWord

/-- The strobes of a bus access: a read, during which the write strobe PxWRn is high, or a write with
the byte strobes that are active (spec/11, Signals; R170). -/
inductive BusStrobes where
  | read
  | write (active : Strobes)
  deriving DecidableEq, Repr

/-- One event of the part: one row of spec/opcode_table.json. -/
inductive Instr where
  /-- POWER_ON (R12, R173). Bit `i` of `lines`: port `i`'s reset line is asserted at that moment. -/
  | powerOn (lines : PortSet)
  /-- DEVICE_RESET_LINE_ASSERTED (R12). -/
  | deviceResetLineAsserted
  /-- DEVICE_RESET_LINE_RELEASED (R13). -/
  | deviceResetLineReleased
  /-- PORT_RESET_LINE_ASSERTED (R135). -/
  | portResetLineAsserted (p : Port)
  /-- PORT_RESET_LINE_RELEASED (R136). -/
  | portResetLineReleased (p : Port)
  /-- ALLOCATE (R79): the engine takes the ALLOCATE of port `p`'s command slot. -/
  | allocate (p : Port) (upset : Upset)
  /-- PUT (R80). -/
  | put (p : Port) (upset : Upset)
  /-- TAKE (R85). -/
  | take (p : Port) (upset : Upset)
  /-- RELEASE (R88). -/
  | release (p : Port) (upset : Upset)
  /-- RENEW (R91). -/
  | renew (p : Port)
  /-- RETURN (R92). -/
  | giveBack (p : Port) (upset : Upset)
  /-- QUERY (R94). -/
  | query (p : Port)
  /-- CLAIM (R98). -/
  | claim (p : Port)
  /-- UNCLAIM (R99). -/
  | unclaim (p : Port)
  /-- FORMAT (R15). -/
  | format (p : Port)
  /-- DEFINE_QUEUE (R150). -/
  | defineQueue (p : Port)
  /-- MODIFY_QUEUE (R152). -/
  | modifyQueue (p : Port)
  /-- PURGE_QUEUE (R155). -/
  | purgeQueue (p : Port)
  /-- DELETE_QUEUE (R156). -/
  | deleteQueue (p : Port)
  /-- SET_PORT (R159). -/
  | setPort (p : Port)
  /-- FENCE_PORT (R139). -/
  | fencePort (p : Port)
  /-- UNFENCE_PORT (R140). -/
  | unfencePort (p : Port)
  /-- RESET_PORT (R137). -/
  | resetPort (p : Port)
  /-- REGISTER_WRITE (R169): a bus access at an offset of the port window, for the registers that have
  no row of their own: a write, or a read, for which the table has no row (log 22). `data` is the word
  on PxD, which a read does not take. -/
  | registerWrite (p : Port) (offset : WindowOffset) (data : Word) (strobes : BusStrobes)
  /-- STATUS_READ (R68). -/
  | statusRead (p : Port)
  /-- WINDOW_SELECT_WRITE (R32). -/
  | windowSelectWrite (p : Port) (data : Word) (strobes : Strobes)
  /-- PORT_CONTROL_WRITE (R127). -/
  | portControlWrite (p : Port) (data : Word) (strobes : Strobes)
  /-- NOTICE_READ (R124). -/
  | noticeRead (p : Port)
  /-- NOTICE_ACKNOWLEDGE (R125). -/
  | noticeAcknowledge (p : Port) (data : Word) (strobes : Strobes)
  /-- CAPTURE_WORD_4_READ (R164). -/
  | captureWord4Read (p : Port)
  /-- WINDOW_READ (R36). -/
  | windowRead (p : Port) (offset : DataOffset) (flips : Flips) (upset : Upset)
  /-- WINDOW_WRITE (R37). -/
  | windowWrite (p : Port) (offset : DataOffset) (data : Word) (strobes : Strobes) (flips : Flips)
      (upset : Upset)
  /-- TICK_ADVANCE (R101). -/
  | tickAdvance
  /-- DEADLINE_DUE (R105). -/
  | deadlineDue
  /-- EXPIRY (R108). -/
  | expiry (upset : Upset)
  /-- PORT_JOB_STEP (R143). -/
  | portJobStep (upset : Upset)
  /-- QUEUE_WALK_STEP (R145). -/
  | queueWalkStep (upset : Upset)
  /-- FORMAT_WALK_CELL (R16). `flips` says, for each cell word, which bits the verify read finds
  different from the zeros just written. -/
  | formatWalkCell (flips : Vector Flips 8) (upset : Upset)
  /-- WALK_COMPLETION (R17). -/
  | walkCompletion
  /-- COMMAND_WORD_WRITE (R63). -/
  | commandWordWrite (p : Port) (data : Word) (strobes : Strobes)
  deriving DecidableEq, Repr

end Sys2Proof
end

