-- ==== Sys2Proof/Decode.lean ====
section
/-! DEFINITION. Decode.lean: the QM4 is a block and its rows have no encoding in
spec/opcode_table.json (every row's "fields" is empty), so no word spells a command. The codes of the
command word (spec/11) are decoded in Machine/Operands.lean. -/

namespace Sys2Proof

/-- The command a word spells by the table's bits: none, since the table gives no row any bits. -/
def decodeTableWord (_nbits _w : Nat) : Option Instr := none

end Sys2Proof
end

