-- ==== Sys2Proof/Config.lean ====
section
/-! DEFINITION. Config.lean: what an implementation of the QM4 fixes and spec/ leaves open.
The one open value is the check code of the cell words (R2); log 9. -/

namespace Sys2Proof

namespace Config

/-- The columns of the eight check bits themselves: bit `j` of the check byte is checked by bit
`j` of the syndrome alone, because the check byte is computed from the data bits (R1). -/
def checkColumns : List Byte := [1, 2, 4, 8, 16, 32, 64, 128]

/-- The law of R2 on the 72 columns of the syndrome (data bits first, then check bits): no column
is zero and no two are equal, so a single-bit error names its bit. The sum of two columns is no
column, so a double-bit error names none. -/
def SingleCorrectingDoubleDetecting (columns : List Byte) : Prop :=
  0 ∉ columns ∧ columns.Pairwise (fun a b => a ≠ b ∧ a ^^^ b ∉ columns)

/-- A number whose bit `n` says whether `n` is in the list. -/
def occupied : List Nat → Nat
  | [] => 0
  | n :: ns => (1 <<< n) ||| occupied ns

/-- A quick test of the law of R2, on numbers. -/
def quickPairs (mask : Nat) : List Nat → Bool
  | [] => true
  | a :: rest =>
    Nat.blt 0 a && rest.all (fun b => !(Nat.beq a b) && !(mask.testBit (a ^^^ b))) && quickPairs mask rest

theorem occupied_testBit (ns : List Nat) (n : Nat) : (occupied ns).testBit n = true ↔ n ∈ ns := by
  induction ns with
  | nil => simp [occupied]
  | cons a ns ih =>
    simp only [occupied, Nat.testBit_or, Bool.or_eq_true, ih, List.mem_cons]
    simp [Nat.one_shiftLeft, Nat.testBit_two_pow, eq_comm]

theorem quickPairs_sound (columns : List Byte) :
    ∀ some : List Byte, quickPairs (occupied (columns.map BitVec.toNat)) (some.map BitVec.toNat) = true →
      0 ∉ some ∧ some.Pairwise (fun a b => a ≠ b ∧ a ^^^ b ∉ columns)
  | [], _ => by simp
  | a :: rest, h => by
    simp only [List.map_cons, quickPairs, Bool.and_eq_true, List.all_eq_true, List.mem_map,
      forall_exists_index, and_imp, forall_apply_eq_imp_iff₂] at h
    obtain ⟨⟨ha, hrest⟩, hmore⟩ := h
    have ih := quickPairs_sound columns rest hmore
    have ha0 : a ≠ 0 := by
      rintro rfl
      simp at ha
    refine ⟨?_, List.pairwise_cons.2 ⟨fun b hb => ?_, ih.2⟩⟩
    · rw [List.mem_cons, not_or]
      exact ⟨Ne.symm ha0, ih.1⟩
    · obtain ⟨hne, hbit⟩ := hrest b hb
      refine ⟨fun e => by simp [e] at hne, fun hmem => ?_⟩
      have : (occupied (columns.map BitVec.toNat)).testBit (a.toNat ^^^ b.toNat) = true := by
        rw [occupied_testBit]
        exact List.mem_map.2 ⟨a ^^^ b, hmem, by simp⟩
      simp [this] at hbit

/-- One matrix that meets the law; its only use is that a code exists. -/
def sampleColumns : List Byte :=
  [7, 11, 13, 14, 19, 21, 22, 25, 26, 28, 31, 35, 37, 38, 41, 42, 44, 47, 49, 50, 52, 55, 56, 59, 61, 62, 67, 69,
    70, 73, 74, 76] ++
  [79, 81, 82, 84, 87, 88, 91, 93, 94, 97, 98, 100, 103, 104, 107, 109, 110, 112, 115, 117, 118, 121, 122, 124,
    131, 133, 134, 137, 138, 140, 143, 145]

theorem sampleColumns_lawful :
    SingleCorrectingDoubleDetecting (sampleColumns ++ checkColumns) :=
  quickPairs_sound _ _ (by decide +kernel)

/-- A check code of R2: for each of the 64 data bits the check bits it enters (a column of the
syndrome), with the law of R2 over all 72 columns. That the code is linear is DEDUCED from R2's
syndrome (log 9). The field values given here only show that such a code exists. -/
structure CheckCode where
  /-- The column of each data bit, bit 0 first. -/
  columns : List Byte := sampleColumns
  /-- There is one column for each of the 64 data bits. -/
  length_eq : columns.length = 64 := by rfl
  /-- Every single-bit error is corrected and every double-bit error detected (R2). -/
  lawful : SingleCorrectingDoubleDetecting (columns ++ checkColumns) := by exact sampleColumns_lawful
  deriving Inhabited

/-- The QM4's check code. The spec gives its law and not its matrix, so it is an uninterpreted
constant: nothing can evaluate it, and a claim holds of every lawful code. DESIGN CHOICE, log 9;
safe. -/
opaque checkCode : CheckCode

end Config

end Sys2Proof
end

