-- ==== Sys2Proof/Machine/State.lean ====
section
/-! DEFINITION. State.lean: every piece of state spec/ gives the QM4, as plain data, and its value at
power-on. INVENTORY.md, section State, lists each with its rule. -/

namespace Sys2Proof.Machine

/-- Why a step stops with a fault: never. Every event of the spec ends in a next state, a
control-store fault and an uncorrectable error included (R161, R165); no reason is needed. -/
inductive Fault : Type
  deriving DecidableEq, Repr

/-- Why a command has no meaning. -/
inductive Refusal where
  /-- Raised by exec's arm of a command that has no meaning yet; safe. -/
  | notModelled (mnemonic : String)
  deriving DecidableEq, Repr

/-! ## Device and format walk -/

/-- The device state (R12). -/
inductive DeviceState where
  | unformatted | formatting | running | halted
  deriving DecidableEq, Repr

/-- The tick periods FORMAT accepts, in microseconds (R15). -/
inductive TickPeriod where
  | us1 | us10 | us100 | us1000
  deriving DecidableEq, Repr

/-- A format walk in progress (R15, R16): the port whose FORMAT started it, what that FORMAT
recorded, and the next cell to visit; 4096 when cell 4095 has been visited. -/
structure FormatWalk where
  issuer : Port
  adminSet : PortSet
  period : TickPeriod
  next : Nat
  deriving DecidableEq, Repr

/-! ## Messages and holdings -/

/-- A message record (R20). The cell count is the length of `cells`. The next field is the view
`State.nextOf` (log 13). -/
structure Message where
  cells : List CellNo
  length : Nat
  tag : BitVec 16
  origin : Port
  redelivery : Nat
  damaged : Bool
  spilled : Bool
  deriving DecidableEq, Repr

/-- The message table: records by message number, in ascending order of number (R21). -/
abbrev MessageTable := List (CellNo × Message)

/-- The fields of a TAKEN slot beside message number and cell count (R25, R29). -/
structure TakenFields where
  source : Option QueueNo
  ordinal : BitVec 16
  holdTime : BitVec 16
  deadline : Option (BitVec 32)
  deriving DecidableEq, Repr

/-- The state of a holding slot with the fields it has in that state (R25). -/
inductive Holding where
  | empty
  | fresh (message : CellNo) (cells : Nat)
  | taken (message : CellNo) (cells : Nat) (fields : TakenFields)
  deriving DecidableEq, Repr

/-- A holding slot: its generation and what it holds (R25). -/
structure Slot where
  gen : BitVec 3
  holding : Holding
  deriving DecidableEq, Repr

/-! ## Queues -/

/-- The state of a queue (R42). -/
inductive QueueState where
  | undefined | active | purging | deleting
  deriving DecidableEq, Repr

/-- A set of notice reasons or conditions, as the three bits software sees (R55, R120, R171,
spec/11 notice word). -/
abbrev Reasons := BitVec 3

/-- The settings of a queue: what DEFINE QUEUE and MODIFY QUEUE write (R41). -/
structure QueueSettings where
  limit : Nat
  putSet : PortSet
  takeSet : PortSet
  holdTime : BitVec 16
  retryLimit : Nat
  spill : Option QueueNo
  target : Option Port
  conditions : Reasons
  highMark : Nat
  lowMark : Nat
  level : BitVec 3
  deriving DecidableEq, Repr

/-- A queue descriptor (R41). The queued count is the length of `list` (R48). -/
structure Queue where
  state : QueueState
  list : List CellNo
  outstanding : Nat
  settings : QueueSettings
  claimant : Option Port
  lowArmed : Bool
  delivered : BitVec 32
  redelivered : BitVec 32
  discarded : BitVec 32
  deriving DecidableEq, Repr

/-! ## Ports, arbiter, timer, reclaim unit -/

/-- The state of a port (R134). -/
inductive PortState where
  | down | attached | reclaiming | fenced
  deriving DecidableEq, Repr

/-- The settle state of a port and the end state of its PORT job (R134, R141). -/
inductive SettleState where
  | attached | fenced
  deriving DecidableEq, Repr

/-- An entry of the port table (R134). -/
structure PortEntry where
  state : PortState
  settle : SettleState
  quota : Nat
  admin : Bool
  ordinal : BitVec 16
  deriving DecidableEq, Repr

/-- The six requesters of the arbiter (R69). -/
inductive Requester where
  | port (p : Port)
  | holdTimer
  | reclaimUnit
  deriving DecidableEq, Repr

/-- An entry of the timeout list (R103). -/
structure TimeoutEntry where
  port : Port
  slot : SlotNo
  gen : BitVec 3
  deadline : BitVec 32
  due : Bool
  deriving DecidableEq, Repr

/-- A job of the reclaim list (R141). -/
inductive Job where
  | purge (q : QueueNo)
  | delete (q : QueueNo)
  | port (p : Port) (endState : SettleState)
  deriving DecidableEq, Repr

/-! ## Capture register -/

/-- The kind of a capture record (R163). -/
inductive CaptureKind where
  | data | link
  deriving DecidableEq, Repr

/-- The block whose access met the error (R163). -/
inductive Agent where
  | port (p : Port)
  | engine
  | reclaimUnit
  deriving DecidableEq, Repr

/-- The access field of a capture record (R163). -/
inductive Access where
  | read | write
  deriving DecidableEq, Repr

/-- The capture record (R163). -/
structure CaptureRecord where
  valid : Bool
  kind : CaptureKind
  location : CellNo
  word : WordNo
  agent : Agent
  access : Access
  deriving DecidableEq, Repr

/-! ## Port interface and notice unit -/

/-- A command record: the code and the copy of the operand words taken at acceptance (R62). -/
structure CommandRecord where
  code : CommandCode
  operands : Vector Word 8
  deriving DecidableEq, Repr

/-- The state of a command slot, with its command record (R62). -/
inductive SlotStatus where
  | idle
  | waiting (r : CommandRecord)
  | running (r : CommandRecord)
  deriving DecidableEq, Repr

/-- A command slot (R62). -/
structure CommandSlot where
  status : SlotStatus
  discard : Bool
  deriving DecidableEq, Repr

/-- What one port interface keeps (R62, R67, R32, R127), its reset line as last taken (R173), and
the data last driven on its bus by a read. -/
structure PortInterface where
  line : Bool
  slot : CommandSlot
  operands : Vector Word 8
  outcome : Word
  results : Vector Word 4
  overrun : Bool
  window : Bool
  data : Bool
  noack : Bool
  select : Option Handle
  noticeEnable : Bool
  systemLevel : BitVec 3
  readData : Word
  deriving DecidableEq, Repr

/-- The kinds of notice (R119). -/
inductive NoticeKind where
  | queue | holdLost | capture | portEvent
  deriving DecidableEq, Repr

/-- A notice record or active-stack entry (R119, R123). -/
structure Notice where
  kind : NoticeKind
  source : BitVec 6
  level : BitVec 3
  reasons : Reasons
  deriving DecidableEq, Repr

/-- A notice unit: its pending set, kept in the order of R122 (log 14), and its active stack,
newest first (R119, R123). -/
structure NoticeUnit where
  pendingSet : List Notice
  active : List Notice
  deriving DecidableEq, Repr

/-! ## The whole part -/

/-- The state of the QM4 and the queue of commands that wait to happen. -/
structure State where
  pending : List Instr
  device : DeviceState
  deviceLine : Bool
  walk : Option FormatWalk
  tickPeriod : Option TickPeriod
  store : List Host.Cell
  faultMarks : List CellNo
  retired : List CellNo
  formatRetired : Nat
  freeList : List CellNo
  messages : MessageTable
  parityErrors : List ControlEntry
  queues : Vector Queue 64
  ports : Vector PortEntry 4
  holdings : Vector (Vector Slot 32) 4
  lastGranted : Requester
  tick : BitVec 32
  timeouts : List TimeoutEntry
  jobs : List Job
  capture : CaptureRecord
  correctable : BitVec 16
  uncorrectable : BitVec 16
  overflow : BitVec 8
  interfaces : Vector PortInterface 4
  notices : Vector NoticeUnit 4
  deriving DecidableEq, Repr

/-! ## Values at power-on -/

/-- The cleared settings of an UNDEFINED descriptor (R44). -/
def QueueSettings.cleared : QueueSettings where
  limit := 0
  putSet := 0
  takeSet := 0
  holdTime := 0
  retryLimit := 0
  spill := none
  target := none
  conditions := 0
  highMark := 0
  lowMark := 0
  level := 0

/-- An UNDEFINED descriptor (R44). -/
def Queue.cleared : Queue where
  state := .undefined
  list := []
  outstanding := 0
  settings := .cleared
  claimant := none
  lowArmed := false
  delivered := 0
  redelivered := 0
  discarded := 0

/-- An EMPTY slot of generation 0 (R27). -/
def Slot.cleared : Slot where
  gen := 0
  holding := .empty

/-- A port table entry after power-on or the device reset line, for a port whose reset line is
asserted or not at that moment (R134). -/
def PortEntry.cleared (lineAsserted : Bool) : PortEntry where
  state := if lineAsserted then .down else .attached
  settle := .attached
  quota := 0
  admin := false
  ordinal := 0

/-- An IDLE slot (R62). -/
def CommandSlot.idle : CommandSlot where
  status := .idle
  discard := false

/-- A port interface after power-on (R62, R67, R32, R127), its line at the given level. -/
def PortInterface.cleared (lineAsserted : Bool) : PortInterface where
  line := lineAsserted
  slot := .idle
  operands := Vector.replicate 8 0
  outcome := 0
  results := Vector.replicate 4 0
  overrun := false
  window := false
  data := false
  noack := false
  select := none
  noticeEnable := false
  systemLevel := 0
  readData := 0

/-- A notice unit with both collections empty (R133). -/
def NoticeUnit.cleared : NoticeUnit where
  pendingSet := []
  active := []

/-- The capture record after power-on: valid clear, fields zero (R168, log 19). -/
def CaptureRecord.cleared : CaptureRecord where
  valid := false
  kind := .data
  location := 0
  word := 0
  agent := .port 0
  access := .read

/-- The part right after power-on, with the given port reset lines asserted (R12, R134, R173):
DRSTn is held asserted by the board (log 5), and the cell store reads zero (log 8). -/
def State.poweredOn (lines : PortSet) : State where
  pending := []
  device := .unformatted
  deviceLine := true
  walk := none
  tickPeriod := none
  store := []
  faultMarks := []
  retired := []
  formatRetired := 0
  freeList := []
  messages := []
  parityErrors := []
  queues := Vector.replicate 64 .cleared
  ports := #v[.cleared (lines.getLsbD 0), .cleared (lines.getLsbD 1), .cleared (lines.getLsbD 2),
    .cleared (lines.getLsbD 3)]
  holdings := Vector.replicate 4 (Vector.replicate 32 .cleared)
  lastGranted := .reclaimUnit
  tick := 0
  timeouts := []
  jobs := []
  capture := .cleared
  correctable := 0
  uncorrectable := 0
  overflow := 0
  interfaces := #v[.cleared (lines.getLsbD 0), .cleared (lines.getLsbD 1), .cleared (lines.getLsbD 2),
    .cleared (lines.getLsbD 3)]
  notices := Vector.replicate 4 .cleared

/-- The machine right after reset: power-on with every port reset line released (log 4). -/
def State.reset : State := State.poweredOn 0

end Sys2Proof.Machine
end

