-- ==== Sys2Proof/Machine/Access.lean ====
section
/-! DEFINITION. Access.lean: reading and writing one entry of each table of the state, and the
views of state that the spec names and that are computed from what is stored (log 13). -/

namespace Sys2Proof.Machine

/-! ## Tables -/

/-- A function applied to every entry of a table. -/
def mapTable {α β : Type} {n : Nat} (f : α → β) (v : Vector α n) : Vector β n :=
  ⟨⟨v.toList.map f⟩, by simp⟩

/-- A function of the index and the entry applied to every entry of a table. -/
def mapTableIdx {α β : Type} {n : Nat} (f : Fin n → α → β) (v : Vector α n) : Vector β n :=
  ⟨⟨(List.finRange n).map (fun i => f i v[i])⟩, by simp⟩

/-! ## Message table -/

/-- The record of a message number, if the message exists (R21). -/
def MessageTable.get? : MessageTable → CellNo → Option Message
  | [], _ => none
  | (k, r) :: rest, m => if k = m then some r else MessageTable.get? rest m

/-- The table with the record of `m` written, kept in ascending order of number. -/
def MessageTable.put : MessageTable → CellNo → Message → MessageTable
  | [], m, r => [(m, r)]
  | (k, x) :: rest, m, r =>
    if m = k then (m, r) :: rest
    else if m < k then (m, r) :: (k, x) :: rest
    else (k, x) :: MessageTable.put rest m r

/-- The table without the record of `m`. -/
def MessageTable.drop (t : MessageTable) (m : CellNo) : MessageTable :=
  t.filter (fun e => e.1 ≠ m)

/-! ## Sets of cells -/

/-- A set of cells, kept in ascending order (log 14), with one cell added. -/
def insertCell (c : CellNo) : List CellNo → List CellNo
  | [] => [c]
  | k :: rest =>
    if c = k then k :: rest
    else if c < k then c :: k :: rest
    else k :: insertCell c rest

/-! ## Entries of the tables -/

namespace State

def queue (s : State) (q : QueueNo) : Queue := s.queues[q]

def setQueue (s : State) (q : QueueNo) (d : Queue) : State :=
  { s with queues := s.queues.set q d }

def port (s : State) (p : Port) : PortEntry := s.ports[p]

def setPortEntry (s : State) (p : Port) (e : PortEntry) : State :=
  { s with ports := s.ports.set p e }

def interface (s : State) (p : Port) : PortInterface := s.interfaces[p]

def setInterface (s : State) (p : Port) (i : PortInterface) : State :=
  { s with interfaces := s.interfaces.set p i }

def noticeUnit (s : State) (p : Port) : NoticeUnit := s.notices[p]

def setNoticeUnit (s : State) (p : Port) (u : NoticeUnit) : State :=
  { s with notices := s.notices.set p u }

def slot (s : State) (p : Port) (i : SlotNo) : Slot := (s.holdings[p])[i]

def setSlot (s : State) (p : Port) (i : SlotNo) (x : Slot) : State :=
  { s with holdings := s.holdings.set p ((s.holdings[p]).set i x) }

/-- The record of message `m`, if it exists (R21). -/
def message (s : State) (m : CellNo) : Option Message := s.messages.get? m

/-- Message `m`'s record changed by `f`; no change where there is no record. -/
def updateMessage (s : State) (m : CellNo) (f : Message → Message) : State :=
  match s.message m with
  | none => s
  | some r => { s with messages := s.messages.put m (f r) }

/-- The cells of message `m`; none where there is no record (log 17). -/
def messageCells (s : State) (m : CellNo) : List CellNo :=
  match s.message m with
  | none => []
  | some r => r.cells

end State

/-! ## Views of a holding -/

/-- The held message (R25). -/
def Holding.message? : Holding → Option CellNo
  | .empty => none
  | .fresh m _ => some m
  | .taken m _ _ => some m

/-- The cell count of a slot, 0 while it is EMPTY (R25, R31). -/
def Holding.cellCount : Holding → Nat
  | .empty => 0
  | .fresh _ c => c
  | .taken _ c _ => c

/-- The slot is EMPTY. -/
def Holding.isEmpty : Holding → Bool
  | .empty => true
  | .fresh _ _ => false
  | .taken _ _ _ => false

/-- The slot is FRESH. -/
def Holding.isFresh : Holding → Bool
  | .empty => false
  | .fresh _ _ => true
  | .taken _ _ _ => false

/-- The source queue of a TAKEN, non-orphaned holding (R25). -/
def Holding.source? : Holding → Option QueueNo
  | .empty => none
  | .fresh _ _ => none
  | .taken _ _ f => f.source

/-- The fields of a TAKEN slot (R25). -/
def Holding.taken? : Holding → Option TakenFields
  | .empty => none
  | .fresh _ _ => none
  | .taken _ _ f => some f

/-! ## Views of the state -/

namespace State

/-- The 32 slots of port `p`, slot 0 first. -/
def slots (s : State) (p : Port) : List Slot := s.holdings[p].toList

/-- The held cells of a port: the cell counts of its FRESH and TAKEN slots (R31). -/
def heldCells (s : State) (p : Port) : Nat :=
  ((s.slots p).map (fun x => x.holding.cellCount)).sum

/-- The lowest-numbered EMPTY slot of a port (R26). -/
def freeSlot (s : State) (p : Port) : Option SlotNo :=
  (List.finRange 32).find? (fun i => (s.slot p i).holding.isEmpty)

/-- The number of EMPTY slots of a port (R26). -/
def freeSlots (s : State) (p : Port) : Nat :=
  (s.slots p).countP (fun x => x.holding.isEmpty)

/-- The port has a FRESH or TAKEN slot (R135). -/
def holdsAny (s : State) (p : Port) : Bool :=
  (s.slots p).any (fun x => !x.holding.isEmpty)

/-- Cell `c` carries its fault mark (R5). -/
def marked (s : State) (c : CellNo) : Bool := s.faultMarks.contains c

/-- The free count (R7). -/
def freeCount (s : State) : Nat := s.freeList.length

/-- The retired count (R10). -/
def retiredCount (s : State) : Nat := s.retired.length

/-- A PORT job naming `p` stands in the reclaim list (R134). -/
def hasPortJob (s : State) (p : Port) : Bool :=
  s.jobs.any (fun j => match j with
    | .port r _ => r == p
    | .purge _ => false
    | .delete _ => false)

/-- The element after `m` in a list, if any. -/
def successor (m : CellNo) : List CellNo → Option CellNo
  | [] => none
  | [_] => none
  | a :: b :: rest => if a = m then some b else successor m (b :: rest)

/-- The next field of message `m`'s record: the message after it in its queue's list (R20, R45). -/
def nextOf (s : State) (m : CellNo) : Option CellNo :=
  (s.queues.toList.find? (fun d => d.list.contains m)).bind (fun d => successor m d.list)

/-- The free-list link of cell `c`: the cell after it on the free list (R7). -/
def linkOf (s : State) (c : CellNo) : Option CellNo := successor c s.freeList

end State

/-- The head of a queue's list (R45). -/
def Queue.head? (d : Queue) : Option CellNo := d.list.head?

/-- The tail of a queue's list (R45). -/
def Queue.tail? (d : Queue) : Option CellNo := d.list.getLast?

/-- The queued count (R48). -/
def Queue.queued (d : Queue) : Nat := d.list.length

/-- The occupancy: queued count plus outstanding count (R50). -/
def Queue.occupancy (d : Queue) : Nat := d.queued + d.outstanding

/-- The settle state as a port state (R136, R144). -/
def SettleState.toPortState : SettleState → PortState
  | .attached => .attached
  | .fenced => .fenced

end Sys2Proof.Machine
end

