-- ==== Sys2Proof/Machine/CellStore.lean ====
section
/-! DEFINITION. CellStore.lean: the cell store as an addressed RAM in one canonical form, the check
code of R2 and the classes of a read. -/

namespace Sys2Proof.Machine

/-! ## Memory: (address, byte) pairs -/

/-- The bytes of the cell store: addresses strictly rising, none equal to what an unlisted address
reads as. Data byte `k` of cell `c` is at `64 c + k`; the check byte of its word `w` is at
`262144 + 8 c + w` (log 8). -/
abbrev Memory := List Host.Cell

/-- What an unlisted address reads as: the payload after power-on is arbitrary (R6), and the model
takes zero. DESIGN CHOICE, log 8. -/
def Memory.unlisted (_address : Nat) : Byte := 0

/-- One byte. -/
def Memory.read : Memory → Nat → Byte
  | [], a => Memory.unlisted a
  | (k, b) :: rest, a => if k = a then b else Memory.read rest a

/-- A byte listed at its place in ascending order. -/
def Memory.list : Memory → Nat → Byte → Memory
  | [], a, b => [(a, b)]
  | (k, x) :: rest, a, b =>
    if a = k then (a, b) :: rest
    else if a < k then (a, b) :: (k, x) :: rest
    else (k, x) :: Memory.list rest a b

/-- One byte written. A byte equal to what an unlisted address reads as leaves the list. -/
def Memory.write (m : Memory) (a : Nat) (b : Byte) : Memory :=
  if b = Memory.unlisted a then m.filter (fun e => e.1 ≠ a) else m.list a b

/-- The canonical form. -/
def Memory.wf : Memory → Bool
  | [] => true
  | (a, b) :: rest => b != Memory.unlisted a && rest.all (fun e => Nat.blt a e.1) && Memory.wf rest

/-- The address of data byte `k` of cell word `w` of cell `c` (R1). -/
def dataAddress (c : CellNo) (w : WordNo) (k : Nat) : Nat := 64 * c.val + 8 * w.val + k

/-- The address of the check byte of cell word `w` of cell `c`. -/
def checkAddress (c : CellNo) (w : WordNo) : Nat := 262144 + 8 * c.val + w.val

/-- The stored 72 bits of a cell word; byte 0 is the least significant byte (R1). -/
def Memory.readWord (m : Memory) (c : CellNo) (w : WordNo) : CellWord :=
  m.read (checkAddress c w) ++
    (m.read (dataAddress c w 7) ++ m.read (dataAddress c w 6) ++ m.read (dataAddress c w 5) ++
      m.read (dataAddress c w 4) ++ m.read (dataAddress c w 3) ++ m.read (dataAddress c w 2) ++
      m.read (dataAddress c w 1) ++ m.read (dataAddress c w 0))

/-- The first `n` bytes of a word written at consecutive addresses. -/
def Memory.writeBytes (m : Memory) (a : Nat) (v : CellWord) : Nat → Memory
  | 0 => m
  | n + 1 => (Memory.writeBytes m a v n).write (a + n) (v.extractLsb' (8 * n) 8)

/-- The stored 72 bits of a cell word written (R1). -/
def Memory.writeWord (m : Memory) (c : CellNo) (w : WordNo) (v : CellWord) : Memory :=
  (m.writeBytes (dataAddress c w 0) v 8).write (checkAddress c w) (v.extractLsb' 64 8)

/-! ## The check code (R2) -/

/-- The 64 data bits of a stored word. -/
def CellWord.payload (v : CellWord) : BitVec 64 := v.extractLsb' 0 64

/-- The check byte of a stored word. -/
def CellWord.check (v : CellWord) : Byte := v.extractLsb' 64 8

/-- The sum of the columns of those of data bits `n - 1` to 0 that are 1. -/
def sumColumns (d : BitVec 64) : Nat → Byte
  | 0 => 0
  | n + 1 => (if d.getLsbD n then Config.checkCode.columns.getD n 0 else 0) ^^^ sumColumns d n

/-- The check byte computed from 64 data bits (R1, R2). -/
def checkByte (d : BitVec 64) : Byte := sumColumns d 64

/-- A cell word with a freshly computed check byte (R3, R4). -/
def encodeWord (d : BitVec 64) : CellWord := checkByte d ++ d

/-- The syndrome of the 72 bits (R2). -/
def syndrome (v : CellWord) : Byte := checkByte (CellWord.payload v) ^^^ CellWord.check v

/-- The class of a read with the data handed to the requester (R2). -/
inductive ReadClass where
  | clean (d : BitVec 64)
  | corrected (d : BitVec 64)
  | uncorrectable (d : BitVec 64)
  deriving DecidableEq, Repr

/-- The data handed over (R2). -/
def ReadClass.payload : ReadClass → BitVec 64
  | .clean d => d
  | .corrected d => d
  | .uncorrectable d => d

/-- The class of a stored word: zero syndrome CLEAN; a syndrome that is one bit's column CORRECTED,
with that bit turned over if it is a data bit; any other UNCORRECTABLE (R2). -/
def classify (v : CellWord) : ReadClass :=
  let d := CellWord.payload v
  let syn := syndrome v
  if syn = 0 then .clean d
  else if Config.checkColumns.contains syn then .corrected d
  else match Config.checkCode.columns.findIdx? (fun col => col == syn) with
    | some i => .corrected (d ^^^ (1#64 <<< i))
    | none => .uncorrectable d

/-! ## Halves and bytes of a cell word (R33, R36, R37) -/

/-- The cell index of a data window offset (R33). -/
def cellIndex (offset : DataOffset) : Nat := offset.toNat / 64

/-- The cell word of a data window offset (R33). -/
def wordIndex (offset : DataOffset) : WordNo := ⟨offset.toNat % 64 / 8, by omega⟩

/-- The offset reaches the high half of its cell word (R33). -/
def highHalf (offset : DataOffset) : Bool := offset.getLsbD 2

/-- The addressed half of a cell word (R36). -/
def halfOf (high : Bool) (d : BitVec 64) : Word :=
  if high then d.extractLsb' 32 32 else d.extractLsb' 0 32

/-- A bus word with the bytes whose strobes are active taken from `new`, the others from `old`
(R37, R170). -/
def mergeBytes (strobes : Strobes) (old new : Word) : Word :=
  (if strobes.getLsbD 3 then new.extractLsb' 24 8 else old.extractLsb' 24 8) ++
    (if strobes.getLsbD 2 then new.extractLsb' 16 8 else old.extractLsb' 16 8) ++
    (if strobes.getLsbD 1 then new.extractLsb' 8 8 else old.extractLsb' 8 8) ++
    (if strobes.getLsbD 0 then new.extractLsb' 0 8 else old.extractLsb' 0 8)

/-- The 64 data bits with a bus write merged into the addressed half (R37). -/
def mergeHalf (high : Bool) (strobes : Strobes) (d : BitVec 64) (w : Word) : BitVec 64 :=
  if high then mergeBytes strobes (d.extractLsb' 32 32) w ++ (d.extractLsb' 0 32 : BitVec 32)
  else (d.extractLsb' 32 32 : BitVec 32) ++ mergeBytes strobes (d.extractLsb' 0 32) w

namespace State

/-- A cell word of the cell store. -/
def cellWord (s : State) (c : CellNo) (w : WordNo) : CellWord := Memory.readWord s.store c w

/-- A cell word of the cell store written. -/
def setCellWord (s : State) (c : CellNo) (w : WordNo) (v : CellWord) : State :=
  { s with store := Memory.writeWord s.store c w v }

/-- The bits of a cell word that have flipped since it was written, turned over in the store
(log 10). -/
def flipBits (s : State) (c : CellNo) (w : WordNo) (flips : Flips) : State :=
  if flips = 0 then s else s.setCellWord c w (s.cellWord c w ^^^ flips)

/-- Cell `c` receives its fault mark (R5). -/
def markCell (s : State) (c : CellNo) : State :=
  { s with faultMarks := insertCell c s.faultMarks }

/-- Cell `c` joins the retired set (R10). -/
def retireCell (s : State) (c : CellNo) : State :=
  { s with retired := insertCell c s.retired }

end State

end Sys2Proof.Machine
end

