-- ==== Sys2Proof/Machine/Operands.lean ====
section
/-! DEFINITION. Operands.lean: every operand form of spec/11: strobes of a register write, the
command codes, the operand fields of each command (R170, R171), handles (R28), and the layout of
fields in a word. -/

namespace Sys2Proof.Machine

/-! ## Fields of a word -/

/-- A number written into `width` bits of a word from bit `lo` up; every other bit zero. -/
def field (lo width n : Nat) : Word := BitVec.ofNat 32 (n % 2 ^ width * 2 ^ lo)

/-- One bit of a word. -/
def flagBit (at' : Nat) (b : Bool) : Word := if b then field at' 1 1 else 0

/-! ## Strobes of a register write (R170) -/

/-- The data with lanes without an active strobe taken as zero. -/
def strobed (strobes : Strobes) (data : Word) : Word := mergeBytes strobes 0 data

/-! ## Command codes (spec/11) -/

/-- The command a code names; none for an unknown code (R63). -/
def CommandCode.ofCode (code : BitVec 8) : Option CommandCode :=
  if code = 0x01#8 then some .allocate
  else if code = 0x02#8 then some .put
  else if code = 0x03#8 then some .take
  else if code = 0x04#8 then some .release
  else if code = 0x05#8 then some .renew
  else if code = 0x06#8 then some .giveBack
  else if code = 0x07#8 then some .query
  else if code = 0x08#8 then some .claim
  else if code = 0x09#8 then some .unclaim
  else if code = 0x10#8 then some .format
  else if code = 0x11#8 then some .defineQueue
  else if code = 0x12#8 then some .modifyQueue
  else if code = 0x13#8 then some .purgeQueue
  else if code = 0x14#8 then some .deleteQueue
  else if code = 0x15#8 then some .setPort
  else if code = 0x16#8 then some .fencePort
  else if code = 0x17#8 then some .unfencePort
  else if code = 0x18#8 then some .resetPort
  else none

/-! ## Operand words (R171) -/

/-- The copy of OP0 to OP7 in a command record. -/
abbrev Operands := Vector Word 8

/-- The end of a queue's list a command names: bit 8 of OP1, 0 TAIL, 1 HEAD (R171). -/
inductive ListEnd where
  | tail | head
  deriving DecidableEq, Repr

namespace Operands

/-- ALLOCATE: n, OP0 bits 4:0. -/
def cellCount (o : Operands) : Nat := (o[0].extractLsb' 0 5).toNat

/-- PUT, RELEASE, RENEW, RETURN: handle, OP0 bits 7:0. -/
def handle (o : Operands) : Handle := o[0].extractLsb' 0 8

/-- The queue field, OP1 bits 6:0. -/
def queueField (o : Operands) : Nat := (o[1].extractLsb' 0 7).toNat

/-- The queue the queue field names; none for 64 to 127. -/
def queue? (o : Operands) : Option QueueNo :=
  if h : o.queueField < 64 then some ⟨o.queueField, h⟩ else none

/-- The end, OP1 bit 8. -/
def listEnd (o : Operands) : ListEnd := if o[1].getLsbD 8 then .head else .tail

/-- PUT: length, OP2 bits 10:0. -/
def length (o : Operands) : Nat := (o[2].extractLsb' 0 11).toNat

/-- PUT: tag, OP3 bits 15:0. -/
def tag (o : Operands) : BitVec 16 := o[3].extractLsb' 0 16

/-- QUERY: page, OP2 bits 1:0. -/
def page (o : Operands) : Nat := (o[2].extractLsb' 0 2).toNat

/-- FORMAT: admin set, OP0 bits 3:0. -/
def adminSet (o : Operands) : PortSet := o[0].extractLsb' 0 4

/-- FORMAT: tick period in microseconds, OP1 bits 10:0. -/
def period (o : Operands) : Nat := (o[1].extractLsb' 0 11).toNat

/-- SET PORT, FENCE PORT, UNFENCE PORT: port, OP0 bits 2:0; none for 4 to 7. -/
def target? (o : Operands) : Option Port :=
  if h : (o[0].extractLsb' 0 3).toNat < 4 then some ⟨(o[0].extractLsb' 0 3).toNat, h⟩ else none

/-- SET PORT: quota, OP1 bits 12:0. -/
def quota (o : Operands) : Nat := (o[1].extractLsb' 0 13).toNat

/-- SET PORT: admin flag, OP2 bit 0. -/
def adminFlag (o : Operands) : Bool := o[2].getLsbD 0

/-- DEFINE QUEUE, MODIFY QUEUE: the settings in OP2 to OP5 (R171). A clear presence bit makes its
field absent whatever the value bits hold. R171 gives the notice conditions as "bits 10 to 8 (ARRIVAL,
HIGH, LOW)" and not which bit is which: that ARRIVAL is bit 8, HIGH bit 9 and LOW bit 10, the ascending
order of the reason bits of the notice word, is the model's. DESIGN CHOICE, log 23; unsafe. -/
def settings (o : Operands) : QueueSettings where
  limit := (o[2].extractLsb' 0 12).toNat
  putSet := o[3].extractLsb' 0 4
  takeSet := o[3].extractLsb' 4 4
  conditions := o[3].extractLsb' 8 3
  level := o[3].extractLsb' 12 3
  target := if o[3].getLsbD 18 then some (o[3].extractLsb' 16 2).toFin else none
  spill := if o[3].getLsbD 31 then some (o[3].extractLsb' 24 6).toFin else none
  retryLimit := (o[4].extractLsb' 0 4).toNat
  holdTime := o[4].extractLsb' 16 16
  highMark := (o[5].extractLsb' 0 12).toNat
  lowMark := (o[5].extractLsb' 16 12).toNat

end Operands

/-- The tick period FORMAT's operand names; none for any other number of microseconds (R15). -/
def TickPeriod.ofMicroseconds (n : Nat) : Option TickPeriod :=
  if n = 1 then some .us1
  else if n = 10 then some .us10
  else if n = 100 then some .us100
  else if n = 1000 then some .us1000
  else none

/-- The microseconds of a tick period (R96). -/
def TickPeriod.microseconds : TickPeriod → Nat
  | .us1 => 1
  | .us10 => 10
  | .us100 => 100
  | .us1000 => 1000

/-- Every setting of queue `q` lies in its accepted range (R150). The sets, the hold time, the retry
limit, the target, the conditions and the level have no value outside it. -/
def QueueSettings.accepted (x : QueueSettings) (q : QueueNo) : Bool :=
  decide (1 ≤ x.limit ∧ x.limit ≤ 4095) && decide (x.spill ≠ some q) &&
    decide (1 ≤ x.highMark ∧ x.highMark ≤ 4095) && decide (x.lowMark < x.highMark)

/-! ## Handles (R28) -/

/-- The handle of a slot and a generation: slot + 32 × generation. -/
def Handle.of (i : SlotNo) (gen : BitVec 3) : Handle := BitVec.ofNat 8 (i.val + 32 * gen.toNat)

/-- The slot a handle names: the byte mod 32. -/
def Handle.slot (h : Handle) : SlotNo := ⟨h.toNat % 32, by omega⟩

/-- The generation a handle names: the byte div 32. -/
def Handle.gen (h : Handle) : BitVec 3 := BitVec.ofNat 3 (h.toNat / 32)

/-- The slot of port `p` that a handle validly names: FRESH or TAKEN and of the handle's generation
(R28, R77). -/
def State.validHandle (s : State) (p : Port) (h : Handle) : Option SlotNo :=
  let x := s.slot p (Handle.slot h)
  if x.holding.isEmpty = false ∧ x.gen = Handle.gen h then some (Handle.slot h) else none

end Sys2Proof.Machine
end

