-- ==== Sys2Proof/Machine/Flags.lean ====
section
/-! DEFINITION. Flags.lean: the sticky flags (R67), BUSY and the status word (R68), the crossings and
low armed (R56, R57), the codes of spec/11 and the words software reads. -/

namespace Sys2Proof.Machine

/-! ## Sticky flags -/

/-- The four sticky flags (R67). -/
inductive StickyFlag where
  | overrun | window | data | noack
  deriving DecidableEq, Repr

/-- A port interface with one sticky flag set. -/
def PortInterface.withFlag (i : PortInterface) : StickyFlag → PortInterface
  | .overrun => { i with overrun := true }
  | .window => { i with window := true }
  | .data => { i with data := true }
  | .noack => { i with noack := true }

/-- A port interface with the four sticky flags clear. -/
def PortInterface.flagsCleared (i : PortInterface) : PortInterface :=
  { i with overrun := false, window := false, data := false, noack := false }

/-- The event of a sticky flag: it is set, but while the port is DOWN the flags are held clear
(R67). -/
def State.setFlag (s : State) (p : Port) (f : StickyFlag) : State :=
  if (s.port p).state = .down then s
  else s.setInterface p ((s.interface p).withFlag f)

/-! ## Crossings of a queue's marks -/

namespace Reasons

/-- ARRIVAL, EXPIRED, UNCORRECTABLE and RESET: the first reason bit (spec/11, notice word). -/
def first : Reasons := 1
/-- HIGH and FENCED: the second reason bit. -/
def second : Reasons := 2
/-- LOW and RECLAIM DONE: the third reason bit. -/
def third : Reasons := 4

def arrival : Reasons := first
def high : Reasons := second
def low : Reasons := third
def expired : Reasons := first
def uncorrectable : Reasons := first
def reset : Reasons := first
def fenced : Reasons := second
def reclaimDone : Reasons := third

end Reasons

/-- The count rises from 0 to 1 (R56). -/
def Queue.crossesArrival (_d : Queue) (old new : Nat) : Bool := old == 0 && new == 1

/-- The count rises from high mark − 1 to the high mark (R56). -/
def Queue.crossesHigh (d : Queue) (old new : Nat) : Bool := new == old + 1 && new == d.settings.highMark

/-- The count falls from low mark + 1 to the low mark while low armed is set (R56). -/
def Queue.crossesLow (d : Queue) (old new : Nat) : Bool :=
  old == new + 1 && new == d.settings.lowMark && d.lowArmed

/-- The crossings of a change of the queued count (R56). -/
def Queue.crossings (d : Queue) (old new : Nat) : Reasons :=
  (if d.crossesArrival old new then Reasons.arrival else 0) |||
    (if d.crossesHigh old new then Reasons.high else 0) |||
    (if d.crossesLow old new then Reasons.low else 0)

/-- Low armed after a change of the queued count (R57). -/
def Queue.armedAfter (d : Queue) (old new : Nat) : Bool :=
  if d.crossesHigh old new then true else if d.crossesLow old new then false else d.lowArmed

/-- A change of the queued count of this queue is evaluated (R56). -/
def Queue.evaluated (d : Queue) : Bool :=
  match d.state with
  | .active => true
  | .purging => true
  | .undefined => false
  | .deleting => false

/-! ## Codes of spec/11 -/

/-- The outcomes of a command (spec/04, Outcomes). -/
inductive OutcomeCode where
  | ok | notReady | halted | fenced | noRight | noQueue | queueBusy | queueFull | queueEmpty
  | claimed | noCells | quota | noSlot | stale | badOperand | targetBusy | orphaned
  deriving DecidableEq, Repr

/-- The outcome codes (spec/11, Outcome word). -/
def OutcomeCode.code : OutcomeCode → Nat
  | .ok => 0x01
  | .notReady => 0x02
  | .halted => 0x03
  | .fenced => 0x04
  | .noRight => 0x05
  | .noQueue => 0x06
  | .queueBusy => 0x07
  | .queueFull => 0x08
  | .queueEmpty => 0x09
  | .claimed => 0x0A
  | .noCells => 0x0B
  | .quota => 0x0C
  | .noSlot => 0x0D
  | .stale => 0x0E
  | .badOperand => 0x0F
  | .targetBusy => 0x10
  | .orphaned => 0x11

/-- The outcome word: the code in bits 7 to 0, zero in the others (R172). -/
def OutcomeCode.word (o : OutcomeCode) : Word := field 0 8 o.code

/-- The empty outcome code (R62). -/
def emptyOutcome : Word := 0

/-- The four result words. -/
abbrev Results := Vector Word 4

/-- Result words all zero (R66, R172). -/
def noResults : Results := Vector.replicate 4 0

/-- Queue states as read (R172). -/
def QueueState.code : QueueState → Nat
  | .undefined => 0
  | .active => 1
  | .purging => 2
  | .deleting => 3

/-- Device states as read (R172). -/
def DeviceState.code : DeviceState → Nat
  | .unformatted => 0
  | .formatting => 1
  | .running => 2
  | .halted => 3

/-- Port states as read (R172). -/
def PortState.code : PortState → Nat
  | .down => 0
  | .attached => 1
  | .reclaiming => 2
  | .fenced => 3

/-- Notice kinds as read (spec/11); also the order of kinds of R122. -/
def NoticeKind.code : NoticeKind → Nat
  | .queue => 0
  | .holdLost => 1
  | .capture => 2
  | .portEvent => 3

/-- Capture kinds as read (spec/11). -/
def CaptureKind.code : CaptureKind → Nat
  | .data => 0
  | .link => 1

/-- Agents as read (spec/11). -/
def Agent.code : Agent → Nat
  | .port p => p.val
  | .engine => 4
  | .reclaimUnit => 5

/-- Access kinds as read (spec/11). -/
def Access.code : Access → Nat
  | .read => 0
  | .write => 1

/-! ## Status, capture and notice words -/

/-- BUSY: the slot is WAITING or RUNNING (R62, R68). -/
def SlotStatus.busy : SlotStatus → Bool
  | .idle => false
  | .waiting _ => true
  | .running _ => true

/-- The status word of port `p` (R68, spec/11). -/
def State.statusWord (s : State) (p : Port) : Word :=
  let i := s.interface p
  flagBit 0 i.slot.status.busy ||| flagBit 1 i.overrun ||| flagBit 2 i.window ||| flagBit 3 i.data |||
    flagBit 4 i.noack ||| field 8 2 (s.port p).state.code ||| field 12 2 s.device.code |||
    field 16 2 p.val

/-- The select register as read: zero when it holds none (R170). -/
def selectWord (select : Option Handle) : Word :=
  match select with
  | none => 0
  | some h => field 0 8 h.toNat ||| flagBit 8 true

/-- The port control register as read (spec/11). -/
def PortInterface.controlWord (i : PortInterface) : Word :=
  flagBit 0 i.noticeEnable ||| field 4 3 i.systemLevel.toNat

/-- A notice word: a record with the valid indication, and the stack depth (R124, spec/11). -/
def noticeWord (n : Option Notice) (depth : Nat) : Word :=
  match n with
  | none => field 24 4 depth
  | some x =>
    field 0 2 x.kind.code ||| field 8 6 x.source.toNat ||| field 16 3 x.level.toNat |||
      field 20 3 x.reasons.toNat ||| field 24 4 depth ||| flagBit 31 true

/-- The first capture word (spec/11). -/
def State.captureWord1 (s : State) : Word :=
  flagBit 0 s.capture.valid ||| field 1 1 s.capture.kind.code ||| field 4 12 s.capture.location.val |||
    field 16 3 s.capture.word.val ||| field 20 3 s.capture.agent.code ||| field 24 1 s.capture.access.code

/-- The second capture word (spec/11). -/
def State.captureWord2 (s : State) : Word :=
  field 0 16 s.correctable.toNat ||| field 16 16 s.uncorrectable.toNat

/-- The third capture word (spec/11). -/
def State.captureWord3 (s : State) : Word := field 0 8 s.overflow.toNat

/-- The fourth capture word repeats valid and kind (R164). -/
def State.captureWord4 (s : State) : Word :=
  flagBit 0 s.capture.valid ||| field 1 1 s.capture.kind.code

/-! ## Saturating counts (R162) -/

/-- A count raised by one, staying at its maximum. -/
def raiseCount {w : Nat} (n : BitVec w) : BitVec w := if n = BitVec.allOnes w then n else n + 1

end Sys2Proof.Machine
end

