-- ==== Sys2Proof/Machine/Notices.lean ====
section
/-! DEFINITION. Notices.lean: the notice units (spec/07): raises and merges, the order of pending
records, withdrawals, the notice line. -/

namespace Sys2Proof.Machine

/-! ## Records -/

/-- Two records share kind and source (R119). -/
def Notice.sameKey (a b : Notice) : Bool := a.kind == b.kind && a.source == b.source

/-- Record `a` is served before record `b`: lower level, then kind, then source (R122). -/
def Notice.before (a b : Notice) : Bool :=
  if a.level ≠ b.level then decide (a.level.toNat < b.level.toNat)
  else if a.kind ≠ b.kind then decide (a.kind.code < b.kind.code)
  else decide (a.source.toNat < b.source.toNat)

/-- A record placed before the first record it is served before. -/
def insertNotice (n : Notice) : List Notice → List Notice
  | [] => [n]
  | x :: rest => if n.before x then n :: x :: rest else x :: insertNotice n rest

/-- The pending set without the record of this kind and source. -/
def withoutKey (n : Notice) (set : List Notice) : List Notice :=
  set.filter (fun x => !x.sameKey n)

/-- The first record in the order of R122. -/
def firstNotice : List Notice → Option Notice
  | [] => none
  | n :: rest =>
    match firstNotice rest with
    | none => some n
    | some x => if x.before n then some x else some n

/-- The record a raise leaves pending: the reasons of a pending record of the same kind and source
are kept beside the raise's own, and the level is the raise's (R121). -/
def mergedNotice (set : List Notice) (n : Notice) : Notice :=
  match set.find? (fun x => x.sameKey n) with
  | none => n
  | some x => { n with reasons := x.reasons ||| n.reasons }

namespace NoticeUnit

/-- A raise taken by the unit of an ATTACHED port (R121). -/
def taking (u : NoticeUnit) (n : Notice) : NoticeUnit :=
  { u with pendingSet := insertNotice (mergedNotice u.pendingSet n) (withoutKey n u.pendingSet) }

/-- A record may be pushed: the stack is empty or its top is less urgent (R124). -/
def admits (u : NoticeUnit) (n : Notice) : Bool :=
  match u.active with
  | [] => true
  | top :: _ => decide (n.level.toNat < top.level.toNat)

/-- The record a notice read would push: the first pending record, if it is eligible (R124). -/
def eligible (u : NoticeUnit) : Option Notice :=
  match firstNotice u.pendingSet with
  | none => none
  | some n => if u.admits n then some n else none

/-- The unit after a notice read (R124). -/
def afterRead (u : NoticeUnit) : NoticeUnit :=
  match u.eligible with
  | none => u
  | some n => { pendingSet := withoutKey n u.pendingSet, active := n :: u.active }

/-- The unit without the pending QUEUE record of queue `q` (R129). -/
def withdrawn (u : NoticeUnit) (q : QueueNo) : NoticeUnit :=
  { u with
    pendingSet :=
      withoutKey { kind := .queue, source := BitVec.ofNat 6 q.val, level := 0, reasons := 0 } u.pendingSet }

end NoticeUnit

/-! ## Raises handed to a port -/

namespace State

/-- A raise to port `p`: dropped unless the port is ATTACHED (R121). -/
def raise (s : State) (p : Port) (n : Notice) : State :=
  if (s.port p).state = .attached then s.setNoticeUnit p ((s.noticeUnit p).taking n) else s

/-- A raise at the receiving port's system level: HOLD LOST, CAPTURE, PORT EVENT (R120). -/
def raiseSystem (s : State) (p : Port) (kind : NoticeKind) (source : BitVec 6) (reasons : Reasons) : State :=
  s.raise p { kind := kind, source := source, level := (s.interface p).systemLevel, reasons := reasons }

/-- A raise to every ATTACHED port that holds the admin flag and passes `among` (R120). -/
def raiseToAdmins (s : State) (among : Port → Bool) (kind : NoticeKind) (source : BitVec 6)
    (reasons : Reasons) : State :=
  Port.all.foldl
    (fun t r => if (t.port r).admin && among r then t.raiseSystem r kind source reasons else t) s

/-- A PORT EVENT about port `p`, to every other ATTACHED admin port (R146). -/
def raisePortEvent (s : State) (p : Port) (reasons : Reasons) : State :=
  s.raiseToAdmins (fun r => r ≠ p) .portEvent (BitVec.ofNat 6 p.val) reasons

/-- A QUEUE notice of queue `q` for the crossings among its conditions, if a target is present
(R58). -/
def raiseQueue (s : State) (q : QueueNo) (found : Reasons) : State :=
  let x := (s.queue q).settings
  match x.target with
  | none => s
  | some t =>
    if found &&& x.conditions = 0 then s
    else s.raise t
      { kind := .queue, source := BitVec.ofNat 6 q.val, level := x.level, reasons := found &&& x.conditions }

/-- A withdrawal naming queue `q` handed to port `p`'s notice unit (R129). -/
def withdraw (s : State) (p : Port) (q : QueueNo) : State :=
  s.setNoticeUnit p ((s.noticeUnit p).withdrawn q)

/-- Port `p`'s pending set and active stack emptied (R130). -/
def emptyNotices (s : State) (p : Port) : State := s.setNoticeUnit p .cleared

/-- The notice line of port `p` is asserted (R128). -/
def noticeLine (s : State) (p : Port) : Bool :=
  s.device == .halted || ((s.interface p).noticeEnable && (s.noticeUnit p).eligible.isSome)

end State

end Sys2Proof.Machine
end

