-- ==== Sys2Proof/Machine/Ops.lean ====
section
/-! DEFINITION. Ops.lean: the operations shared by the commands and events: the arbiter, taking and
completing a command, control-store reads and the halt, queue lists, slots, the free list, the
timeout list, the return path, and the port operations of spec/08. -/

namespace Sys2Proof.Machine

namespace State

/-! ## Bus -/

/-- Read data driven on port `p`'s bus (R173). -/
def drive (s : State) (p : Port) (w : Word) : State :=
  s.setInterface p { s.interface p with readData := w }

/-! ## Command slot and completion -/

/-- Port `p`'s slot made IDLE with no record and no discard mark. -/
def idleSlot (s : State) (p : Port) : State :=
  s.setInterface p { s.interface p with slot := .idle }

/-- Outcome word and result words written (R64, R65, R172). -/
def writeOutcome (s : State) (p : Port) (o : OutcomeCode) (rs : Results) : State :=
  s.setInterface p { s.interface p with outcome := o.word, results := rs }

/-- Completion of the command in port `p`'s slot (R65); with the discard mark set, nothing is
written (R72). -/
def complete (s : State) (p : Port) (o : OutcomeCode) (rs : Results) : State :=
  if (s.interface p).slot.discard then s.idleSlot p else (s.writeOutcome p o rs).idleSlot p

/-! ## Arbiter (R69, R70) -/

/-- A requester is requesting (R69). -/
def requests (s : State) : Requester → Bool
  | .port p =>
    match (s.interface p).slot.status with
    | .idle => false
    | .waiting _ => true
    | .running _ => false
  | .holdTimer => s.device == .running && s.timeouts.any (fun e => e.due)
  | .reclaimUnit => s.device == .running && !s.jobs.isEmpty

/-- The round from the requester after the given one, wrapping (R70). -/
def roundAfter : Requester → List Requester
  | .port 0 => [.port 1, .port 2, .port 3, .holdTimer, .reclaimUnit, .port 0]
  | .port 1 => [.port 2, .port 3, .holdTimer, .reclaimUnit, .port 0, .port 1]
  | .port 2 => [.port 3, .holdTimer, .reclaimUnit, .port 0, .port 1, .port 2]
  | .port 3 => [.holdTimer, .reclaimUnit, .port 0, .port 1, .port 2, .port 3]
  | .holdTimer => [.reclaimUnit, .port 0, .port 1, .port 2, .port 3, .holdTimer]
  | .reclaimUnit => [.port 0, .port 1, .port 2, .port 3, .holdTimer, .reclaimUnit]

/-- The requester the arbiter's next search finds (R70). -/
def granted (s : State) : Option Requester := (roundAfter s.lastGranted).find? s.requests

/-- The device-state check of R14; none where the command's own checks follow. -/
def deviceCheck (s : State) (c : CommandCode) : Option OutcomeCode :=
  match s.device with
  | .halted => some .halted
  | .formatting => some .notReady
  | .unformatted => if s.deviceLine then some .notReady else if c = .format then none else some .notReady
  | .running => if c = .format then some .notReady else none

/-- The operands of the command that the next grant gives the engine, if that grant goes to port `p`
and its command is `c` (R65, R69). -/
def presents (s : State) (p : Port) (c : CommandCode) : Option Operands :=
  if s.granted = some (.port p) then
    match (s.interface p).slot.status with
    | .idle => none
    | .waiting r => if r.code = c then some r.operands else none
    | .running _ => none
  else none

/-- The grant to port `p`: it becomes the last-granted requester and its slot RUNNING (R65, R70). -/
def startCommand (s : State) (p : Port) (c : CommandCode) (o : Operands) : State :=
  { s with lastGranted := .port p }.setInterface p
    { s.interface p with
      slot := { (s.interface p).slot with status := .running { code := c, operands := o } } }

/-- The engine takes command `c` of port `p`: the grant, the device-state check, then the command's
own checks and effects (R65, R71). Where the next grant is not this one, the event is not taken and
the state stands (log 1). -/
def takeCommand (s : State) (p : Port) (c : CommandCode) (body : Operands → State → State) : State :=
  match s.presents p c with
  | none => s
  | some o =>
    match s.deviceCheck c with
    | some x => (s.startCommand p c o).complete p x noResults
    | none => body o (s.startCommand p c o)

/-! ## Control store: parity and the halt (R165, R166) -/

/-- The entry's parity is upset before the event (log 11). -/
def upset (s : State) : Upset → State
  | none => s
  | some e => { s with parityErrors := e :: s.parityErrors.filter (fun x => x ≠ e) }

/-- An entry is written, and its parity with it (R165). -/
def writeEntry (s : State) (e : ControlEntry) : State :=
  { s with parityErrors := s.parityErrors.filter (fun x => x ≠ e) }

/-- The first entry, in the order they are read, whose parity mismatches (R165). -/
def mismatch (s : State) (reads : List ControlEntry) : Option ControlEntry :=
  reads.find? (fun e => s.parityErrors.contains e)

/-- The capture record of a control-store fault (R163, R165). -/
def linkRecord (e : ControlEntry) (agent : Agent) : CaptureRecord :=
  match e with
  | .record m => { valid := true, kind := .link, location := m, word := 0, agent := agent, access := .read }
  | .link c => { valid := true, kind := .link, location := c, word := 1, agent := agent, access := .read }

/-- Entry to HALTED with the LINK record filled (R165). -/
def halt (s : State) (e : ControlEntry) (agent : Agent) : State :=
  { s with device := .halted, capture := linkRecord e agent }

/-- A command that reads the control store: a mismatch halts the device and the command completes
with HALTED and no other effect (R166); otherwise its effects follow. -/
def commandReads (s : State) (p : Port) (reads : List ControlEntry) (effect : State → State) : State :=
  match s.mismatch reads with
  | some e => (s.halt e .engine).complete p .halted noResults
  | none => effect s

/-- An expiry or reclaim step that reads the control store (R166). -/
def requestReads (s : State) (agent : Agent) (reads : List ControlEntry) (effect : State → State) : State :=
  match s.mismatch reads with
  | some e => s.halt e agent
  | none => effect s

/-! ## Queue lists (R46 to R48, R56 to R58) -/

/-- The list of queue `q` becomes `list`, which changes its queued count; the crossings are
evaluated on the change and raised (R48, R56 to R58). -/
def changeList (s : State) (q : QueueNo) (list : List CellNo) : State :=
  let d := s.queue q
  if d.evaluated then
    (s.setQueue q { d with list := list, lowArmed := d.armedAfter d.queued list.length }).raiseQueue q
      (d.crossings d.queued list.length)
  else s.setQueue q { d with list := list }

/-- Message `m` linked at an end of queue `q`'s list (R46). -/
def link (s : State) (q : QueueNo) (atEnd : ListEnd) (m : CellNo) : State :=
  match atEnd with
  | .tail => s.changeList q ((s.queue q).list ++ [m])
  | .head => s.changeList q (m :: (s.queue q).list)

/-- The message at an end of queue `q`'s list. -/
def endMessage (s : State) (q : QueueNo) : ListEnd → Option CellNo
  | .head => (s.queue q).head?
  | .tail => (s.queue q).tail?

/-- The message at an end of queue `q`'s list unlinked (R47). -/
def unlink (s : State) (q : QueueNo) : ListEnd → State
  | .head => s.changeList q (s.queue q).list.tail
  | .tail => s.changeList q (s.queue q).list.dropLast

/-- The entries linking at an end reads: at the tail, the record of the current tail (R46, log 12). -/
def linkReads (s : State) (q : QueueNo) : ListEnd → List ControlEntry
  | .head => []
  | .tail => (s.queue q).tail?.toList.map .record

/-- The entries unlinking from an end reads: the head's record, or every record from the head to the
tail (R47, log 12). -/
def unlinkReads (s : State) (q : QueueNo) : ListEnd → List ControlEntry
  | .head => (s.queue q).head?.toList.map .record
  | .tail => (s.queue q).list.map .record

/-! ## Free list, frees and messages (R8, R9, R21) -/

/-- The entries taking `n` cells reads: the links of the cells taken (R8, log 12). -/
def takeCellsReads (s : State) (n : Nat) : List ControlEntry := (s.freeList.take n).map .link

/-- The entries appending cells reads: the link of the free list's tail, where a cell is appended and
the list is not empty (R9, R19, log 12). -/
def appendReads (s : State) (cells : List CellNo) : List ControlEntry :=
  if cells.any (fun c => !s.marked c) then s.freeList.getLast?.toList.map .link else []

/-- The entries freeing message `m` reads: its record and those its appends read (R9, log 12). -/
def freeReads (s : State) (m : CellNo) : List ControlEntry :=
  .record m :: s.appendReads (s.messageCells m)

/-- Cell `c` appended to the free list's tail (R9). -/
def appendCell (s : State) (c : CellNo) : State :=
  { s with freeList := s.freeList ++ [c] }.writeEntry (.link c)

/-- One cell of a freed message: to the free list, or to the retired set if marked (R9). -/
def freeCell (s : State) (c : CellNo) : State :=
  if s.marked c then s.retireCell c else s.appendCell c

/-- Message `m` freed: its cells one by one in cell-list order, then its record (R9, R21). -/
def freeMessage (s : State) (m : CellNo) : State :=
  let t := (s.messageCells m).foldl freeCell s
  { t with messages := t.messages.drop m }

/-- A new message of the `n` cells at the free list's head, named by the first (R8, R21). -/
def createMessage (s : State) (n : Nat) (origin : Port) (m : CellNo) : State :=
  { s with
    freeList := s.freeList.drop n
    messages := s.messages.put m
      { cells := s.freeList.take n, length := 0, tag := 0, origin := origin, redelivery := 0,
        damaged := false, spilled := false } }.writeEntry (.record m)

/-! ## Slots (R25 to R27) -/

/-- An EMPTY slot receives a message; its generation is kept (R26). -/
def fillSlot (s : State) (p : Port) (i : SlotNo) (h : Holding) : State :=
  s.setSlot p i { s.slot p i with holding := h }

/-- A slot becomes EMPTY and its generation advances modulo 8 (R27). -/
def emptySlot (s : State) (p : Port) (i : SlotNo) : State :=
  s.setSlot p i { gen := (s.slot p i).gen + 1, holding := .empty }

/-- The handle that names slot `i` of port `p` as it stands (R28). -/
def handleOf (s : State) (p : Port) (i : SlotNo) : Handle := Handle.of i (s.slot p i).gen

/-! ## Timeout list (R102 to R105) -/

end State

/-- The remaining time of a deadline: deadline minus tick counter, modulo 2^32 (R102). -/
def remaining (tick deadline : BitVec 32) : Nat := (deadline - tick).toNat

/-- An entry inserted after every due entry and every entry of no greater remaining time, before the
first not-due entry of greater remaining time (R104). -/
def insertEntry (tick : BitVec 32) (e : TimeoutEntry) : List TimeoutEntry → List TimeoutEntry
  | [] => [e]
  | x :: rest =>
    if x.due = false ∧ remaining tick e.deadline < remaining tick x.deadline then e :: x :: rest
    else x :: insertEntry tick e rest

namespace State

/-- A new deadline's entry handed to the hold timer (R85, R104). -/
def insertTimeout (s : State) (e : TimeoutEntry) : State :=
  { s with timeouts := insertEntry s.tick e s.timeouts }

/-- The entry of a holding removed, due or not (R103). -/
def removeTimeout (s : State) (p : Port) (i : SlotNo) : State :=
  { s with timeouts := s.timeouts.filter (fun e => !(e.port == p && e.slot == i)) }

/-- Every entry whose remaining time is 0 marked due (R105). -/
def markDue (s : State) : State :=
  { s with
    timeouts := s.timeouts.map (fun e => if remaining s.tick e.deadline = 0 then { e with due := true } else e) }

/-! ## Counts of a queue -/

/-- Queue `q`'s outstanding count lowered by one (R49). -/
def lowerOutstanding (s : State) (q : QueueNo) : State :=
  s.setQueue q { s.queue q with outstanding := (s.queue q).outstanding - 1 }

/-- The outstanding count of a holding's source lowered, if the holding has a source (R49). -/
def lowerSource (s : State) (source : Option QueueNo) : State :=
  match source with
  | none => s
  | some q => s.lowerOutstanding q

/-- Queue `q`'s discarded counter raised (R60). -/
def raiseDiscarded (s : State) (q : QueueNo) : State :=
  s.setQueue q { s.queue q with discarded := (s.queue q).discarded + 1 }

/-- Queue `q`'s redelivered counter raised (R59). -/
def raiseRedelivered (s : State) (q : QueueNo) : State :=
  s.setQueue q { s.queue q with redelivered := (s.queue q).redelivered + 1 }

end State

/-! ## Return path (R110 to R114) -/

/-- Where the return path puts a message (R110). -/
inductive Disposition where
  | requeued
  | spilled (q : QueueNo)
  | discarded
  deriving DecidableEq, Repr

namespace State

/-- Queue `x` can take a spill: ACTIVE and below its limit (R114). -/
def takesSpill (s : State) (x : QueueNo) : Bool :=
  (s.queue x).state == .active && decide ((s.queue x).occupancy < (s.queue x).settings.limit)

/-- The disposition of message record `r` returned to queue `q` (R110). -/
def disposition (s : State) (q : QueueNo) (r : Message) : Disposition :=
  match (s.queue q).state with
  | .active =>
    if r.spilled = false ∧ r.redelivery < (s.queue q).settings.retryLimit then .requeued
    else match (s.queue q).settings.spill with
      | none => .discarded
      | some x => if r.spilled = false ∧ s.takesSpill x = true then .spilled x else .discarded
  | .purging => .discarded
  | .deleting => .discarded
  | .undefined => .discarded

/-- The disposition of message `m`; a message without a record is discarded (log 17). -/
def dispositionOf (s : State) (q : QueueNo) (m : CellNo) : Disposition :=
  match s.message m with
  | none => .discarded
  | some r => s.disposition q r

/-- The effects of a disposition (R111, R112, R114). -/
def settleReturn (s : State) (q : QueueNo) (m : CellNo) : Disposition → State
  | .requeued =>
    ((s.updateMessage m (fun r => { r with redelivery := r.redelivery + 1 })).link q .head m).raiseRedelivered q
  | .spilled x => (s.updateMessage m (fun r => { r with redelivery := 0, spilled := true })).link x .tail m
  | .discarded => (s.freeMessage m).raiseDiscarded q

/-- The return path: queue `q`'s outstanding count falls, then one disposition is made (R110). -/
def returnPath (s : State) (q : QueueNo) (m : CellNo) : State :=
  let t := s.lowerOutstanding q
  t.settleReturn q m (t.dispositionOf q m)

/-- The entries the return path reads: the message's record, and those of the link or the free it
makes (R110, log 12). -/
def returnReads (s : State) (q : QueueNo) (m : CellNo) : List ControlEntry :=
  match (s.lowerOutstanding q).dispositionOf q m with
  | .requeued => [.record m]
  | .spilled x => .record m :: s.linkReads x .tail
  | .discarded => s.freeReads m

/-- A TAKEN holding with a source ends by the return path: its timeout entry is removed, the slot
emptied, and the message passed on (R93, R108, R143). -/
def endHolding (s : State) (p : Port) (i : SlotNo) (m : CellNo) (q : QueueNo) : State :=
  (((s.removeTimeout p i).emptySlot p i).returnPath q m)

/-- A holding ends by freeing its message (R88, R92, R143). -/
def dropHolding (s : State) (p : Port) (i : SlotNo) (m : CellNo) : State :=
  (s.emptySlot p i).freeMessage m

/-! ## Ports leaving ATTACHED (spec/08) -/

/-- Every claim port `p` holds cleared (R52). -/
def clearClaims (s : State) (p : Port) : State :=
  { s with
    queues := mapTable (fun d => if d.claimant = some p then { d with claimant := none } else d) s.queues }

/-- A PORT job naming `p` appended if `p` holds any FRESH or TAKEN slot (R135, R139, R141). -/
def appendPortJob (s : State) (p : Port) (endState : SettleState) : State :=
  if s.holdsAny p then { s with jobs := s.jobs ++ [.port p endState] } else s

/-- What a port reset leaves of a command slot (R72). -/
def slotAfterReset (x : CommandSlot) : CommandSlot :=
  match x.status with
  | .idle => x
  | .waiting _ => .idle
  | .running r => if r.code = .format then { x with discard := true } else .idle

/-- The effects of a port reset on port `p`'s interface: slot, words, flags, select register and
notice settings (R72, R67, R32, R127). -/
def resetInterface (s : State) (p : Port) : State :=
  let i := s.interface p
  s.setInterface p
    { i.flagsCleared with
      slot := slotAfterReset i.slot
      outcome := emptyOutcome
      operands := Vector.replicate 8 0
      results := noResults
      select := none
      noticeEnable := false
      systemLevel := 0 }

/-- The effects every port reset has, whatever the port's state before (R135). -/
def portResetEffects (s : State) (p : Port) : State :=
  ((s.clearClaims p).emptyNotices p).resetInterface p

/-- The state and settle state of port `p` changed. -/
def movePort (s : State) (p : Port) (state : PortState) (settle : SettleState) : State :=
  s.setPortEntry p { s.port p with state := state, settle := settle }

/-- A port reset assertion taken from ATTACHED (R135): DOWN, settle state ATTACHED, and, unless the
device is HALTED, a PORT job and a PORT EVENT. -/
def resetFromAttached (s : State) (p : Port) : State :=
  let t := (s.movePort p .down .attached).portResetEffects p
  if s.device = .halted then t
  else (t.appendPortJob p .attached).raisePortEvent p Reasons.reset

/-- A port reset assertion taken from any other state (R135): DOWN, settle state and any job kept. -/
def resetFromElsewhere (s : State) (p : Port) : State :=
  let t := (s.movePort p .down (s.port p).settle).portResetEffects p
  if s.device = .halted then t else t.raisePortEvent p Reasons.reset

/-- A port reset release: RECLAIMING if a PORT job stands, else the settle state; outcome, operand
and result words cleared (R136, R72). -/
def releaseReset (s : State) (p : Port) : State :=
  let e := s.port p
  let t := s.movePort p (if s.hasPortJob p then .reclaiming else e.settle.toPortState) e.settle
  t.setInterface p
    { s.interface p with
      outcome := emptyOutcome
      operands := Vector.replicate 8 0
      results := noResults }

end State

end Sys2Proof.Machine
end

