-- ==== Sys2Proof/Machine/Lifecycle.lean ====
section
/-! DEFINITION. Lifecycle.lean: power-on, the reset lines, FORMAT, the format walk and its completion
(spec/01, spec/08 R135, R136). -/

namespace Sys2Proof.Machine

/-! ## Power and the device reset line -/

/-- POWER_ON (R12, R62, R74, R134, R168): every block takes its power-on value, from any state. -/
def execPowerOn (lines : PortSet) (s : State) : Host.Outcome State Fault Refusal :=
  .next { State.poweredOn lines with pending := s.pending }

/-- The part after the device reset line is taken as asserted (R12, R74, R118, R133, R148, R168):
payload, the capture record and the three counts are kept, and each port is DOWN if its own line is
asserted (log 6). -/
def State.deviceReset (s : State) : State :=
  { State.poweredOn 0 with
    pending := s.pending
    store := s.store
    capture := s.capture
    correctable := s.correctable
    uncorrectable := s.uncorrectable
    overflow := s.overflow
    ports := mapTable (fun i => PortEntry.cleared i.line) s.interfaces
    interfaces := mapTable (fun i => { PortInterface.cleared i.line with readData := i.readData }) s.interfaces }

/-- DEVICE_RESET_LINE_ASSERTED (R12). With the line already taken as asserted no event is taken
(R173, log 3). -/
def execDeviceResetLineAsserted (s : State) : Host.Outcome State Fault Refusal :=
  .next (if s.deviceLine then s else s.deviceReset)

/-- DEVICE_RESET_LINE_RELEASED (R13): the device stays UNFORMATTED. -/
def execDeviceResetLineReleased (s : State) : Host.Outcome State Fault Refusal :=
  .next { s with deviceLine := false }

/-! ## Port reset lines -/

/-- The level port `p`'s reset line was last taken at. -/
def State.setLine (s : State) (p : Port) (asserted : Bool) : State :=
  s.setInterface p { s.interface p with line := asserted }

/-- PORT_RESET_LINE_ASSERTED (R135). With the line already taken as asserted no event is taken
(R173, log 3). -/
def execPortResetLineAsserted (p : Port) (s : State) : Host.Outcome State Fault Refusal :=
  .next
    (if (s.interface p).line then s
    else match (s.port p).state with
      | .attached => (s.setLine p true).resetFromAttached p
      | .reclaiming => (s.setLine p true).resetFromElsewhere p
      | .fenced => (s.setLine p true).resetFromElsewhere p
      | .down => (s.setLine p true).resetFromElsewhere p)

/-- PORT_RESET_LINE_RELEASED (R136). With the line already taken as released no event is taken
(R173, log 3). -/
def execPortResetLineReleased (p : Port) (s : State) : Host.Outcome State Fault Refusal :=
  .next (if (s.interface p).line then (s.setLine p false).releaseReset p else s)

/-! ## FORMAT -/

/-- The checks of R15, in order. -/
def formatCheck (o : Operands) : Except OutcomeCode TickPeriod :=
  if o.adminSet = 0 then .error .badOperand
  else match TickPeriod.ofMicroseconds o.period with
    | none => .error .badOperand
    | some t => .ok t

/-- FORMAT past the device-state check (R15): on success the walk starts and the slot stays
RUNNING. -/
def formatBody (p : Port) (o : Operands) (s : State) : State :=
  match formatCheck o with
  | .error x => s.complete p x noResults
  | .ok t =>
    { s with
      walk := some { issuer := p, adminSet := o.adminSet, period := t, next := 0 }
      formatRetired := 0
      device := .formatting }

/-- FORMAT (R15). -/
def execFormat (p : Port) (s : State) : Host.Outcome State Fault Refusal :=
  .next (s.takeCommand p .format (formatBody p))

/-! ## The format walk (R16, R19) -/

/-- The eight cell words of a cell. -/
def WordNo.all : List WordNo := [0, 1, 2, 3, 4, 5, 6, 7]

/-- What the verify read of a cell word finds: the zero just written with its check byte, but for the
bits that differ (R16, log 10). -/
def verifyRead (flips : Vector Flips 8) (w : WordNo) : CellWord := encodeWord 0 ^^^ flips[w]

/-- The cell verifies: all eight reads CLEAN with zero data (R16). -/
def verifies (flips : Vector Flips 8) : Bool :=
  WordNo.all.all (fun w => classify (verifyRead flips w) == .clean 0)

/-- The eight format writes of a cell, as the store holds them afterwards (R16). -/
def State.formatCell (s : State) (c : CellNo) (flips : Vector Flips 8) : State :=
  WordNo.all.foldl (fun t w => t.setCellWord c w (verifyRead flips w)) s

/-- The walk goes on to the next cell. -/
def State.walkNext (s : State) (w : FormatWalk) : State := { s with walk := some { w with next := w.next + 1 } }

/-- The walk visits cell `c` (R16): a cell that verifies is appended to the free list; one that fails
is marked and retired. A parity fault on the link the append reads halts the device, and the FORMAT
completes with HALTED (R19, R166; log 18). -/
def State.visitCell (s : State) (w : FormatWalk) (c : CellNo) (flips : Vector Flips 8) : State :=
  if verifies flips then
    match s.mismatch (s.freeList.getLast?.toList.map .link) with
    | some e => { s.halt e .engine with walk := none }.complete w.issuer .halted noResults
    | none => ((s.formatCell c flips).appendCell c).walkNext w
  else
    let t := ((s.formatCell c flips).markCell c).retireCell c
    { t with formatRetired := s.formatRetired + 1 }.walkNext w

/-- FORMAT_WALK_CELL (R16). Without a walk that has a cell to visit, no event is taken (log 1). -/
def execFormatWalkCell (flips : Vector Flips 8) (u : Upset) (s : State) : Host.Outcome State Fault Refusal :=
  .next
    (if s.device = .formatting then
      match s.walk with
      | none => s.upset u
      | some w => if h : w.next < 4096 then (s.upset u).visitCell w ⟨w.next, h⟩ flips else s.upset u
    else s.upset u)

/-- A control-store entry that is no message record. -/
def ControlEntry.isLink : ControlEntry → Bool
  | .record _ => false
  | .link _ => true

/-- The steps of FORMAT completion but the last (R17). -/
def State.finishWalk (s : State) (w : FormatWalk) : State :=
  { s with
    queues := Vector.replicate 64 .cleared
    messages := []
    parityErrors := s.parityErrors.filter ControlEntry.isLink
    holdings := Vector.replicate 4 (Vector.replicate 32 .cleared)
    notices := Vector.replicate 4 .cleared
    ports := mapTableIdx (fun p e => { e with quota := 1024, admin := w.adminSet.getLsbD p.val, ordinal := 0 }) s.ports
    tickPeriod := some w.period
    tick := 0
    timeouts := []
    walk := none
    device := .running }

/-- WALK_COMPLETION (R17). Before the walk has visited cell 4095, no event is taken (log 1). -/
def execWalkCompletion (s : State) : Host.Outcome State Fault Refusal :=
  .next
    (if s.device = .formatting then
      match s.walk with
      | none => s
      | some w => if w.next = 4096 then (s.finishWalk w).complete w.issuer .ok noResults else s
    else s)

end Sys2Proof.Machine
end

