-- ==== Sys2Proof/Machine/MessageCommands.lean ====
section
/-! DEFINITION. MessageCommands.lean: ALLOCATE, PUT, TAKE, RELEASE, RENEW, RETURN, QUERY, CLAIM and
UNCLAIM (spec/05). Each `...Check` lists the command's checks in the spec's order. -/

namespace Sys2Proof.Machine

/-! ## ALLOCATE -/

/-- The checks of R78; on success the slot and the first cell of the new message. -/
def allocateCheck (s : State) (p : Port) (n : Nat) : Except OutcomeCode (SlotNo × CellNo) :=
  if n < 1 ∨ 16 < n then .error .badOperand
  else match s.freeSlot p with
    | none => .error .noSlot
    | some i =>
      if (s.port p).quota < s.heldCells p + n then .error .quota
      else if s.freeCount < n then .error .noCells
      else match s.freeList.head? with
        | none => .error .noCells
        | some m => .ok (i, m)

/-- The effects of R79. -/
def allocateEffect (p : Port) (n : Nat) (i : SlotNo) (m : CellNo) (s : State) : State :=
  (s.createMessage n p m).fillSlot p i (.fresh m n)

/-- ALLOCATE past the device-state check (R78, R79). -/
def allocateBody (p : Port) (o : Operands) (s : State) : State :=
  match allocateCheck s p o.cellCount with
  | .error x => s.complete p x noResults
  | .ok (i, m) =>
    s.commandReads p (s.takeCellsReads o.cellCount) (fun t =>
      (allocateEffect p o.cellCount i m t).complete p .ok #v[field 0 8 (t.handleOf p i).toNat, 0, 0, 0])

/-- ALLOCATE (R79). -/
def execAllocate (p : Port) (u : Upset) (s : State) : Host.Outcome State Fault Refusal :=
  .next ((s.upset u).takeCommand p .allocate (allocateBody p))

/-! ## PUT -/

/-- The length operand suits the holding (R80). -/
def Holding.acceptsLength (h : Holding) (length : Nat) : Bool :=
  match h with
  | .empty => false
  | .fresh _ c => decide (1 ≤ length ∧ length ≤ 64 * c)
  | .taken _ _ _ => decide (length = 0)

/-- The checks of R80; on success the slot and the queue. -/
def putCheck (s : State) (p : Port) (o : Operands) : Except OutcomeCode (SlotNo × QueueNo) :=
  match s.validHandle p o.handle with
  | none => .error .stale
  | some i =>
    match o.queue? with
    | none => .error .badOperand
    | some q =>
      match (s.queue q).state with
      | .undefined => .error .noQueue
      | .purging => .error .queueBusy
      | .deleting => .error .queueBusy
      | .active =>
        if (s.queue q).settings.putSet.getLsbD p.val = false then .error .noRight
        else if (s.slot p i).holding.acceptsLength o.length = false then .error .badOperand
        else if (s.queue q).settings.limit ≤ (s.queue q).occupancy then .error .queueFull
        else .ok (i, q)

/-- A PUT of a FRESH holding (R81). -/
def putFresh (p : Port) (i : SlotNo) (q : QueueNo) (o : Operands) (m : CellNo) (s : State) : State :=
  ((s.updateMessage m (fun r => { r with length := o.length, tag := o.tag })).link q o.listEnd m).emptySlot p i

/-- A PUT of a TAKEN holding forwards the message (R82). -/
def putTaken (p : Port) (i : SlotNo) (q : QueueNo) (o : Operands) (m : CellNo) (f : TakenFields) (s : State) :
    State :=
  ((((s.lowerSource f.source).removeTimeout p i).updateMessage m
      (fun r => { r with redelivery := 0, spilled := false })).link q o.listEnd m).emptySlot p i

/-- The effects of a PUT that passes its checks (R81, R82). -/
def putEffect (p : Port) (i : SlotNo) (q : QueueNo) (o : Operands) (s : State) : State :=
  match (s.slot p i).holding with
  | .empty => s
  | .fresh m _ => putFresh p i q o m s
  | .taken m _ f => putTaken p i q o m f s

/-- The control-store entries a PUT reads: the message's record and those of the link (log 12). -/
def putReads (s : State) (p : Port) (i : SlotNo) (q : QueueNo) (e : ListEnd) : List ControlEntry :=
  (s.slot p i).holding.message?.toList.map .record ++ s.linkReads q e

/-- PUT past the device-state check (R80 to R82). -/
def putBody (p : Port) (o : Operands) (s : State) : State :=
  match putCheck s p o with
  | .error x => s.complete p x noResults
  | .ok (i, q) =>
    s.commandReads p (putReads s p i q o.listEnd) (fun t => (putEffect p i q o t).complete p .ok noResults)

/-- PUT (R80). -/
def execPut (p : Port) (u : Upset) (s : State) : Host.Outcome State Fault Refusal :=
  .next ((s.upset u).takeCommand p .put (putBody p))

/-! ## TAKE -/

/-- Checks 1 to 6 of R84; on success the queue, the slot and the message at the named end. -/
def takeCheck (s : State) (p : Port) (o : Operands) : Except OutcomeCode (QueueNo × SlotNo × CellNo) :=
  match o.queue? with
  | none => .error .badOperand
  | some q =>
    match (s.queue q).state with
    | .undefined => .error .noQueue
    | .purging => .error .queueBusy
    | .deleting => .error .queueBusy
    | .active =>
      if (s.queue q).settings.takeSet.getLsbD p.val = false then .error .noRight
      else if (s.queue q).claimant ≠ none ∧ (s.queue q).claimant ≠ some p then .error .claimed
      else match s.endMessage q o.listEnd with
        | none => .error .queueEmpty
        | some m =>
          match s.freeSlot p with
          | none => .error .noSlot
          | some i => .ok (q, i, m)

/-- The TAKEN fields TAKE writes (R29, R85). -/
def takenFields (s : State) (p : Port) (q : QueueNo) : TakenFields where
  source := some q
  ordinal := (s.port p).ordinal
  holdTime := (s.queue q).settings.holdTime
  deadline :=
    if (s.queue q).settings.holdTime = 0 then none
    else some (s.tick + (s.queue q).settings.holdTime.setWidth 32)

/-- The timeout entry of a new TAKEN holding, if it has a deadline (R85 step 6). -/
def State.insertDeadline (s : State) (p : Port) (i : SlotNo) (gen : BitVec 3) (deadline : Option (BitVec 32)) :
    State :=
  match deadline with
  | none => s
  | some d => s.insertTimeout { port := p, slot := i, gen := gen, deadline := d, due := false }

/-- Steps 2 and 3 of R85: the outstanding count and the delivered counter rise. -/
def State.countTake (s : State) (q : QueueNo) : State :=
  s.setQueue q
    { s.queue q with outstanding := (s.queue q).outstanding + 1, delivered := (s.queue q).delivered + 1 }

/-- Port `p`'s take ordinal counter advances (R30). -/
def State.advanceOrdinal (s : State) (p : Port) : State :=
  s.setPortEntry p { s.port p with ordinal := (s.port p).ordinal + 1 }

/-- The effects of R85. -/
def takeEffect (p : Port) (q : QueueNo) (i : SlotNo) (m : CellNo) (e : ListEnd) (s : State) : State :=
  let f := takenFields s p q
  (((((s.unlink q e).countTake q).fillSlot p i (.taken m (s.messageCells m).length f)).advanceOrdinal p).insertDeadline
    p i (s.slot p i).gen f.deadline)

/-- The result words of a TAKE (R86, spec/11). -/
def takeResults (s : State) (p : Port) (i : SlotNo) (m : CellNo) : Results :=
  match s.message m with
  | none => #v[field 0 8 (s.handleOf p i).toNat, 0, 0, 0]
  | some r =>
    #v[field 0 8 (s.handleOf p i).toNat ||| field 8 4 r.redelivery ||| field 16 5 r.cells.length |||
        flagBit 24 r.damaged ||| flagBit 25 r.spilled,
      field 0 11 r.length ||| field 16 2 r.origin.val,
      field 0 16 r.tag.toNat,
      0]

/-- TAKE past the device-state check (R84, R85). Check 7 reads the end message's record before it
can answer QUOTA. -/
def takeBody (p : Port) (o : Operands) (s : State) : State :=
  match takeCheck s p o with
  | .error x => s.complete p x noResults
  | .ok (q, i, m) =>
    s.commandReads p [.record m] (fun t =>
      if (t.port p).quota < t.heldCells p + (t.messageCells m).length then t.complete p .quota noResults
      else t.commandReads p (t.unlinkReads q o.listEnd) (fun v =>
        (takeEffect p q i m o.listEnd v).complete p .ok (takeResults v p i m)))

/-- TAKE (R85). -/
def execTake (p : Port) (u : Upset) (s : State) : Host.Outcome State Fault Refusal :=
  .next ((s.upset u).takeCommand p .take (takeBody p))

/-! ## RELEASE -/

/-- The result words of a RELEASE: cells to the free list, cells retired (R88). -/
def releaseResults (s : State) (m : CellNo) : Results :=
  #v[field 0 5 ((s.messageCells m).countP (fun c => !s.marked c)),
    field 0 5 ((s.messageCells m).countP s.marked), 0, 0]

/-- The effects of R89, which are those of R88 for a FRESH holding, with no source and no deadline. -/
def releaseEffect (p : Port) (i : SlotNo) (m : CellNo) (source : Option QueueNo) (s : State) : State :=
  ((s.lowerSource source).removeTimeout p i).dropHolding p i m

/-- RELEASE past the device-state check (R88, R89). -/
def releaseBody (p : Port) (o : Operands) (s : State) : State :=
  match s.validHandle p o.handle with
  | none => s.complete p .stale noResults
  | some i =>
    match (s.slot p i).holding.message? with
    | none => s.complete p .stale noResults
    | some m =>
      s.commandReads p (s.freeReads m) (fun t =>
        (releaseEffect p i m (t.slot p i).holding.source? t).complete p .ok (releaseResults t m))

/-- RELEASE (R88). -/
def execRelease (p : Port) (u : Upset) (s : State) : Host.Outcome State Fault Refusal :=
  .next ((s.upset u).takeCommand p .release (releaseBody p))

/-! ## RENEW -/

/-- The holding's deadline and its timeout entry set anew (R91). -/
def renewEffect (p : Port) (i : SlotNo) (m : CellNo) (c : Nat) (f : TakenFields) (d : BitVec 32) (s : State) : State :=
  ((s.fillSlot p i (.taken m c { f with deadline := some d })).removeTimeout p i).insertTimeout
    { port := p, slot := i, gen := (s.slot p i).gen, deadline := d, due := false }

/-- RENEW past the device-state check (R90, R91). -/
def renewBody (p : Port) (o : Operands) (s : State) : State :=
  match s.validHandle p o.handle with
  | none => s.complete p .stale noResults
  | some i =>
    match (s.slot p i).holding with
    | .empty => s.complete p .stale noResults
    | .fresh _ _ => s.complete p .badOperand noResults
    | .taken m c f =>
      if f.source = none then s.complete p .orphaned noResults
      else if f.holdTime = 0 then s.complete p .ok noResults
      else
        let d := s.tick + f.holdTime.setWidth 32
        (renewEffect p i m c f d s).complete p .ok #v[field 0 16 f.holdTime.toNat, d, 0, 0]

/-- RENEW (R91). -/
def execRenew (p : Port) (s : State) : Host.Outcome State Fault Refusal :=
  .next (s.takeCommand p .renew (renewBody p))

/-! ## RETURN -/

/-- The result words of a RETURN (R93, R172). -/
def returnResults (q : QueueNo) : Disposition → Results
  | .requeued => #v[field 0 2 1, field 0 6 q.val, 0, 0]
  | .spilled x => #v[field 0 2 2, field 0 6 x.val, 0, 0]
  | .discarded => #v[field 0 2 3, 0, 0, 0]

/-- RETURN past the device-state check (R92, R93). -/
def returnBody (p : Port) (o : Operands) (s : State) : State :=
  match s.validHandle p o.handle with
  | none => s.complete p .stale noResults
  | some i =>
    match (s.slot p i).holding with
    | .empty => s.complete p .stale noResults
    | .fresh _ _ => s.complete p .badOperand noResults
    | .taken m _ f =>
      match f.source with
      | none =>
        s.commandReads p (s.freeReads m) (fun t => (t.dropHolding p i m).complete p .orphaned noResults)
      | some q =>
        s.commandReads p (s.returnReads q m) (fun t =>
          (t.endHolding p i m q).complete p .ok (returnResults q ((t.lowerOutstanding q).dispositionOf q m)))

/-- RETURN (R92). -/
def execReturn (p : Port) (u : Upset) (s : State) : Host.Outcome State Fault Refusal :=
  .next ((s.upset u).takeCommand p .giveBack (returnBody p))

/-! ## QUERY -/

/-- The claimant field of a QUERY: the port with its presence bit, or zero (R95, R172). -/
def claimantWord (claimant : Option Port) : Word :=
  match claimant with
  | none => 0
  | some p => field 0 2 p.val ||| flagBit 2 true

/-- QUERY of a queue, page 0 (R95). -/
def queryCounts (d : Queue) : Results :=
  #v[field 0 2 d.state.code, field 0 12 d.queued ||| field 16 12 d.outstanding, field 0 12 d.settings.limit,
    claimantWord d.claimant]

/-- QUERY of a queue, page 1 (R95). -/
def queryCounters (d : Queue) : Results := #v[d.delivered, d.redelivered, d.discarded, 0]

/-- QUERY of device information (R96). -/
def queryDevice (s : State) : Results :=
  #v[field 0 2 s.device.code, field 0 13 s.freeCount ||| field 16 13 s.retiredCount, field 0 13 s.formatRetired,
    match s.tickPeriod with
    | none => 0
    | some t => field 0 11 t.microseconds]

/-- QUERY of the issuing port's information (R97). -/
def queryPort (s : State) (p : Port) : Results :=
  #v[field 0 2 (s.port p).state.code, field 0 13 (s.port p).quota,
    field 0 10 (s.heldCells p) ||| field 16 6 (s.freeSlots p), 0]

/-- The checks of R94 and what QUERY reads. -/
def queryCheck (s : State) (p : Port) (o : Operands) : Except OutcomeCode Results :=
  if 64 < o.queueField then .error .badOperand
  else if 1 < o.page then .error .badOperand
  else match o.queue? with
    | some q => .ok (if o.page = 0 then queryCounts (s.queue q) else queryCounters (s.queue q))
    | none => .ok (if o.page = 0 then queryDevice s else queryPort s p)

/-- QUERY past the device-state check (R94). -/
def queryBody (p : Port) (o : Operands) (s : State) : State :=
  match queryCheck s p o with
  | .error x => s.complete p x noResults
  | .ok rs => s.complete p .ok rs

/-- QUERY (R94). -/
def execQuery (p : Port) (s : State) : Host.Outcome State Fault Refusal :=
  .next (s.takeCommand p .query (queryBody p))

/-! ## CLAIM and UNCLAIM -/

/-- Queue `q`'s claimant written (R52). -/
def State.setClaimant (s : State) (q : QueueNo) (c : Option Port) : State :=
  s.setQueue q { s.queue q with claimant := c }

/-- The checks of R98. -/
def claimCheck (s : State) (p : Port) (o : Operands) : Except OutcomeCode QueueNo :=
  match o.queue? with
  | none => .error .badOperand
  | some q =>
    match (s.queue q).state with
    | .undefined => .error .noQueue
    | .purging => .error .queueBusy
    | .deleting => .error .queueBusy
    | .active =>
      if (s.queue q).settings.takeSet.getLsbD p.val = false then .error .noRight
      else if (s.queue q).claimant ≠ none ∧ (s.queue q).claimant ≠ some p then .error .claimed
      else .ok q

/-- CLAIM past the device-state check (R98). -/
def claimBody (p : Port) (o : Operands) (s : State) : State :=
  match claimCheck s p o with
  | .error x => s.complete p x noResults
  | .ok q => (s.setClaimant q (some p)).complete p .ok noResults

/-- CLAIM (R98). -/
def execClaim (p : Port) (s : State) : Host.Outcome State Fault Refusal :=
  .next (s.takeCommand p .claim (claimBody p))

/-- The checks of R99. -/
def unclaimCheck (s : State) (p : Port) (o : Operands) : Except OutcomeCode QueueNo :=
  match o.queue? with
  | none => .error .badOperand
  | some q =>
    if (s.queue q).state = .undefined then .error .noQueue
    else if (s.queue q).claimant ≠ some p then .error .badOperand
    else .ok q

/-- UNCLAIM past the device-state check (R99). -/
def unclaimBody (p : Port) (o : Operands) (s : State) : State :=
  match unclaimCheck s p o with
  | .error x => s.complete p x noResults
  | .ok q => (s.setClaimant q none).complete p .ok noResults

/-- UNCLAIM (R99). -/
def execUnclaim (p : Port) (s : State) : Host.Outcome State Fault Refusal :=
  .next (s.takeCommand p .unclaim (unclaimBody p))

end Sys2Proof.Machine
end

