-- ==== Sys2Proof/Machine/PortAdmin.lean ====
section
/-! DEFINITION. PortAdmin.lean: FENCE PORT, UNFENCE PORT and RESET PORT (spec/08). -/

namespace Sys2Proof.Machine

/-! ## FENCE PORT -/

/-- What the checks of R138 leave: a port to fence, or the harmless repeat of check 4. -/
inductive FenceCase where
  | already
  | fence (r : Port)
  deriving DecidableEq, Repr

/-- The checks of R138, in order. -/
def fencePortCheck (s : State) (p : Port) (o : Operands) : Except OutcomeCode FenceCase :=
  if (s.port p).admin = false then .error .noRight
  else match o.target? with
    | none => .error .badOperand
    | some r =>
      if r = p then .error .badOperand
      else match (s.port r).state with
        | .fenced => .ok .already
        | .reclaiming => .error .targetBusy
        | .down => .error .targetBusy
        | .attached => .ok (.fence r)

/-- What a fence does to the target's command slot and words (R73). -/
def State.fenceSlot (s : State) (r : Port) : State :=
  match (s.interface r).slot.status with
  | .idle => s
  | .waiting _ => (s.writeOutcome r .fenced noResults).idleSlot r
  | .running _ => s

/-- The state a fenced port takes (R139). -/
def State.fencedState (s : State) (r : Port) : PortState := if s.holdsAny r then .reclaiming else .fenced

/-- The effects of R139 on target `r`. -/
def fencePortEffect (r : Port) (s : State) : State :=
  let t := ((s.fenceSlot r).clearClaims r).emptyNotices r
  ((t.movePort r (s.fencedState r) .fenced).appendPortJob r .fenced).raisePortEvent r Reasons.fenced

/-- FENCE PORT past the device-state check (R138, R139). -/
def fencePortBody (p : Port) (o : Operands) (s : State) : State :=
  match fencePortCheck s p o with
  | .error x => s.complete p x noResults
  | .ok .already => s.complete p .ok noResults
  | .ok (.fence r) => (fencePortEffect r s).complete p .ok noResults

/-- FENCE_PORT (R139). -/
def execFencePort (p : Port) (s : State) : Host.Outcome State Fault Refusal :=
  .next (s.takeCommand p .fencePort (fencePortBody p))

/-! ## UNFENCE PORT -/

/-- The checks of R140. -/
def unfencePortCheck (s : State) (p : Port) (o : Operands) : Except OutcomeCode Port :=
  if (s.port p).admin = false then .error .noRight
  else match o.target? with
    | none => .error .badOperand
    | some r =>
      match (s.port r).state with
      | .reclaiming => .error .targetBusy
      | .down => .error .targetBusy
      | .attached => .ok r
      | .fenced => .ok r

/-- The effects of R140: an ATTACHED port is left as it is. -/
def unfencePortEffect (r : Port) (s : State) : State :=
  match (s.port r).state with
  | .fenced => s.movePort r .attached .attached
  | .attached => s
  | .reclaiming => s
  | .down => s

/-- UNFENCE PORT past the device-state check (R140). -/
def unfencePortBody (p : Port) (o : Operands) (s : State) : State :=
  match unfencePortCheck s p o with
  | .error x => s.complete p x noResults
  | .ok r => (unfencePortEffect r s).complete p .ok noResults

/-- UNFENCE_PORT (R140). -/
def execUnfencePort (p : Port) (s : State) : Host.Outcome State Fault Refusal :=
  .next (s.takeCommand p .unfencePort (unfencePortBody p))

/-! ## RESET PORT -/

/-- RESET PORT past the device-state check: a port reset taken from ATTACHED, and its release at
once. Its own slot ends IDLE with no outcome (R137, R72). -/
def resetPortBody (p : Port) (_o : Operands) (s : State) : State := (s.resetFromAttached p).releaseReset p

/-- RESET_PORT (R137). -/
def execResetPort (p : Port) (s : State) : Host.Outcome State Fault Refusal :=
  .next (s.takeCommand p .resetPort (resetPortBody p))

end Sys2Proof.Machine
end

