-- ==== Sys2Proof/Machine/QueueAdmin.lean ====
section
/-! DEFINITION. QueueAdmin.lean: DEFINE QUEUE, MODIFY QUEUE, PURGE QUEUE, DELETE QUEUE and SET PORT
(spec/09). Each `...Check` lists the command's checks in the spec's order. -/

namespace Sys2Proof.Machine

/-! ## DEFINE QUEUE -/

/-- The checks of R150. -/
def defineQueueCheck (s : State) (p : Port) (o : Operands) : Except OutcomeCode QueueNo :=
  if (s.port p).admin = false then .error .noRight
  else match o.queue? with
    | none => .error .badOperand
    | some q =>
      match (s.queue q).state with
      | .active => .error .badOperand
      | .purging => .error .badOperand
      | .deleting => .error .badOperand
      | .undefined => if o.settings.accepted q = false then .error .badOperand else .ok q

/-- The effects of R151. -/
def defineQueueEffect (q : QueueNo) (x : QueueSettings) (s : State) : State :=
  s.setQueue q
    { s.queue q with
      state := .active, settings := x, lowArmed := false, delivered := 0, redelivered := 0, discarded := 0 }

/-- DEFINE QUEUE past the device-state check (R150, R151). -/
def defineQueueBody (p : Port) (o : Operands) (s : State) : State :=
  match defineQueueCheck s p o with
  | .error x => s.complete p x noResults
  | .ok q => (defineQueueEffect q o.settings s).complete p .ok noResults

/-- DEFINE_QUEUE (R150). -/
def execDefineQueue (p : Port) (s : State) : Host.Outcome State Fault Refusal :=
  .next (s.takeCommand p .defineQueue (defineQueueBody p))

/-! ## MODIFY QUEUE -/

/-- The first four checks of R152, R155 and R156: the admin flag, the queue number, a defined queue,
and one that is not PURGING or DELETING. -/
def liveQueueCheck (s : State) (p : Port) (o : Operands) : Except OutcomeCode QueueNo :=
  if (s.port p).admin = false then .error .noRight
  else match o.queue? with
    | none => .error .badOperand
    | some q =>
      match (s.queue q).state with
      | .undefined => .error .noQueue
      | .purging => .error .queueBusy
      | .deleting => .error .queueBusy
      | .active => .ok q

/-- The checks of R152. -/
def modifyQueueCheck (s : State) (p : Port) (o : Operands) : Except OutcomeCode QueueNo :=
  match liveQueueCheck s p o with
  | .error x => .error x
  | .ok q =>
    if o.settings.accepted q = false then .error .badOperand
    else if o.settings.limit < (s.queue q).occupancy then .error .badOperand
    else .ok q

/-- The port a withdrawal is handed to when `old` settings become `new` (R154). -/
def withdrawalTarget (old new : QueueSettings) : Option Port :=
  if new.target ≠ old.target ∨ new.level ≠ old.level ∨ new.conditions = 0 then old.target else none

/-- A withdrawal handed to the target, if there is one (R129). -/
def State.withdrawFrom (s : State) (target : Option Port) (q : QueueNo) : State :=
  match target with
  | none => s
  | some t => s.withdraw t q

/-- The effects of R153 and R154. -/
def modifyQueueEffect (q : QueueNo) (x : QueueSettings) (s : State) : State :=
  (s.setQueue q { s.queue q with settings := x }).withdrawFrom (withdrawalTarget (s.queue q).settings x) q

/-- MODIFY QUEUE past the device-state check (R152 to R154). -/
def modifyQueueBody (p : Port) (o : Operands) (s : State) : State :=
  match modifyQueueCheck s p o with
  | .error x => s.complete p x noResults
  | .ok q => (modifyQueueEffect q o.settings s).complete p .ok noResults

/-- MODIFY_QUEUE (R152). -/
def execModifyQueue (p : Port) (s : State) : Host.Outcome State Fault Refusal :=
  .next (s.takeCommand p .modifyQueue (modifyQueueBody p))

/-! ## PURGE QUEUE -/

/-- A job appended at the tail of the reclaim list (R141). -/
def State.appendJob (s : State) (j : Job) : State := { s with jobs := s.jobs ++ [j] }

/-- The effects of R155. -/
def purgeQueueEffect (q : QueueNo) (s : State) : State :=
  (s.setQueue q { s.queue q with state := .purging }).appendJob (.purge q)

/-- PURGE QUEUE past the device-state check (R155). -/
def purgeQueueBody (p : Port) (o : Operands) (s : State) : State :=
  match liveQueueCheck s p o with
  | .error x => s.complete p x noResults
  | .ok q => (purgeQueueEffect q s).complete p .ok #v[field 0 12 (s.queue q).queued, 0, 0, 0]

/-- PURGE_QUEUE (R155). -/
def execPurgeQueue (p : Port) (s : State) : Host.Outcome State Fault Refusal :=
  .next (s.takeCommand p .purgeQueue (purgeQueueBody p))

/-! ## DELETE QUEUE -/

/-- A holding orphaned if its source is `q`: source and deadline absent, captured hold time and take
ordinal kept (R29, R156). -/
def Holding.orphaned (q : QueueNo) (h : Holding) : Holding :=
  match h with
  | .empty => .empty
  | .fresh m c => .fresh m c
  | .taken m c f => if f.source = some q then .taken m c { f with source := none, deadline := none } else .taken m c f

/-- A slot whose source is `q`. -/
def Slot.fromQueue (q : QueueNo) (x : Slot) : Bool := decide (x.holding.source? = some q)

/-- The number of holdings whose source is `q`, over all ports (R49, R156). -/
def State.holdingsFrom (s : State) (q : QueueNo) : Nat :=
  (Port.all.map (fun p => (s.slots p).countP (Slot.fromQueue q))).sum

/-- Every holding whose source is `q` orphaned and its timeout entry removed (R156). -/
def State.orphan (s : State) (q : QueueNo) : State :=
  { s with
    holdings := mapTable (mapTable (fun x => { x with holding := x.holding.orphaned q })) s.holdings
    timeouts := s.timeouts.filter (fun e => !(s.slot e.port e.slot).fromQueue q) }

/-- The effects of R156. -/
def deleteQueueEffect (q : QueueNo) (s : State) : State :=
  let t := s.orphan q
  let u := t.setQueue q { t.queue q with outstanding := 0, claimant := none, state := .deleting }
  (u.withdrawFrom (s.queue q).settings.target q).appendJob (.delete q)

/-- DELETE QUEUE past the device-state check (R156). -/
def deleteQueueBody (p : Port) (o : Operands) (s : State) : State :=
  match liveQueueCheck s p o with
  | .error x => s.complete p x noResults
  | .ok q =>
    (deleteQueueEffect q s).complete p .ok
      #v[field 0 8 (s.holdingsFrom q), field 0 12 (s.queue q).queued, 0, 0]

/-- DELETE_QUEUE (R156). -/
def execDeleteQueue (p : Port) (s : State) : Host.Outcome State Fault Refusal :=
  .next (s.takeCommand p .deleteQueue (deleteQueueBody p))

/-! ## SET PORT -/

/-- Some port other than `r` has its admin flag set and its settle state ATTACHED (R159). -/
def State.otherAdmin (s : State) (r : Port) : Bool :=
  Port.all.any (fun x => decide (x ≠ r) && (s.port x).admin && decide ((s.port x).settle = .attached))

/-- The checks of R159. -/
def setPortCheck (s : State) (p : Port) (o : Operands) : Except OutcomeCode Port :=
  if (s.port p).admin = false then .error .noRight
  else match o.target? with
    | none => .error .badOperand
    | some r =>
      if 4096 < o.quota then .error .badOperand
      else if o.quota < s.heldCells r then .error .badOperand
      else if o.adminFlag = false ∧ s.otherAdmin r = false then .error .badOperand
      else .ok r

/-- The effects of R159. -/
def setPortEffect (r : Port) (quota : Nat) (admin : Bool) (s : State) : State :=
  s.setPortEntry r { s.port r with quota := quota, admin := admin }

/-- SET PORT past the device-state check (R159). -/
def setPortBody (p : Port) (o : Operands) (s : State) : State :=
  match setPortCheck s p o with
  | .error x => s.complete p x noResults
  | .ok r => (setPortEffect r o.quota o.adminFlag s).complete p .ok noResults

/-- SET_PORT (R159). -/
def execSetPort (p : Port) (s : State) : Host.Outcome State Fault Refusal :=
  .next (s.takeCommand p .setPort (setPortBody p))

end Sys2Proof.Machine
end

