-- ==== Sys2Proof/Machine/Timer.lean ====
section
/-! DEFINITION. Timer.lean: the tick counter, the due marks and the expiry (spec/06). -/

namespace Sys2Proof.Machine

/-! ## The tick counter and the due marks -/

/-- One advance of the tick counter, with the due marks of the same event (R101, R105). -/
def State.advanceTick (s : State) : State := { s with tick := s.tick + 1 }.markDue

/-- TICK_ADVANCE (R101): while the device is not RUNNING the counter is stopped and no advance is
taken (log 1). -/
def execTickAdvance (s : State) : Host.Outcome State Fault Refusal :=
  .next (if s.device = .running then s.advanceTick else s)

/-- DEADLINE_DUE (R105): the marking of the entries whose remaining time is 0, on its own (log 15). -/
def execDeadlineDue (s : State) : Host.Outcome State Fault Refusal :=
  .next (if s.device = .running then s.markDue else s)

/-! ## Expiry -/

/-- The earliest due entry: the first due one in the list's order (R69, R106). -/
def State.dueEntry (s : State) : Option TimeoutEntry := s.timeouts.find? (fun e => e.due)

/-- A grant to the hold timer or the reclaim unit (R70). -/
def State.grantTo (s : State) (r : Requester) : State := { s with lastGranted := r }

/-- The HOLD LOST notice of an expiry (R109). -/
def State.raiseHoldLost (s : State) (e : TimeoutEntry) : State :=
  s.raiseSystem e.port .holdLost (BitVec.ofNat 6 e.slot.val) Reasons.expired

/-- The entry that an expiry presents leaves the list with no other effect; its slot is not TAKEN with
a source, which R103 excludes (log 17). -/
def State.dropEntry (s : State) (e : TimeoutEntry) : State := { s with timeouts := s.timeouts.erase e }

/-- An expiry of entry `e`, at its grant (R108). -/
def State.expire (s : State) (e : TimeoutEntry) : State :=
  match (s.slot e.port e.slot).holding with
  | .empty => s.dropEntry e
  | .fresh _ _ => s.dropEntry e
  | .taken m _ f =>
    match f.source with
    | none => s.dropEntry e
    | some q =>
      s.requestReads .engine (s.returnReads q m) (fun t => (t.endHolding e.port e.slot m q).raiseHoldLost e)

/-- The hold timer's grant, if the arbiter's next grant goes to it (R69, R106). -/
def State.timerGrant (s : State) : State :=
  if s.granted = some .holdTimer then
    match s.dueEntry with
    | none => s
    | some e => (s.grantTo .holdTimer).expire e
  else s

/-- EXPIRY (R108). -/
def execExpiry (u : Upset) (s : State) : Host.Outcome State Fault Refusal := .next (s.upset u).timerGrant

end Sys2Proof.Machine
end

