-- ==== Sys2Proof/Machine/Reclaim.lean ====
section
/-! DEFINITION. Reclaim.lean: the steps of the reclaim unit's jobs (spec/08 R141 to R145). -/

namespace Sys2Proof.Machine

/-! ## The choice of a PORT job's step -/

/-- The take age of a holding of port `p` (R30). -/
def State.takeAge (s : State) (p : Port) (f : TakenFields) : BitVec 16 := (s.port p).ordinal - f.ordinal

/-- The TAKEN slots of a port with their take ages, lowest slot first. -/
def State.takenAges (s : State) (p : Port) : List (SlotNo × BitVec 16) :=
  (List.finRange 32).filterMap (fun i => (s.slot p i).holding.taken?.map (fun f => (i, s.takeAge p f)))

/-- The first entry of smallest take age. -/
def youngest : List (SlotNo × BitVec 16) → Option (SlotNo × BitVec 16)
  | [] => none
  | x :: rest =>
    match youngest rest with
    | none => some x
    | some y => if y.2.toNat < x.2.toNat then some y else some x

/-- The lowest-numbered FRESH slot of a port. -/
def State.freshSlot (s : State) (p : Port) : Option SlotNo :=
  (List.finRange 32).find? (fun i => (s.slot p i).holding.isFresh)

/-- The slot a PORT job's step chooses, if any (R143). -/
def State.reclaimChoice (s : State) (p : Port) : Option SlotNo :=
  match youngest (s.takenAges p) with
  | some x => some x.1
  | none => s.freshSlot p

/-! ## A PORT job's step -/

/-- The job at the head of the list leaves it (R141). -/
def State.popJob (s : State) : State := { s with jobs := s.jobs.tail }

/-- Completion of a PORT job (R144). -/
def State.completePortJob (s : State) (p : Port) (endState : SettleState) : State :=
  let t := s.popJob
  let v := if (t.port p).state = .reclaiming then t.movePort p endState.toPortState (t.port p).settle else t
  v.raisePortEvent p Reasons.reclaimDone

/-- The job completes in the same grant if the port holds nothing any more (R143, R144). -/
def State.completeIfEmpty (s : State) (p : Port) (endState : SettleState) : State :=
  if s.holdsAny p then s else s.completePortJob p endState

/-- The control-store entries the step reads for the holding it has chosen (R165, log 12). -/
def State.reclaimReads (s : State) (h : Holding) : List ControlEntry :=
  match h with
  | .empty => []
  | .fresh m _ => s.freeReads m
  | .taken m _ f =>
    match f.source with
    | none => s.freeReads m
    | some q => s.returnReads q m

/-- The chosen holding returned or freed (R143). -/
def State.reclaimHolding (s : State) (p : Port) (i : SlotNo) (h : Holding) : State :=
  match h with
  | .empty => s
  | .fresh m _ => s.dropHolding p i m
  | .taken m _ f =>
    match f.source with
    | none => s.dropHolding p i m
    | some q => s.endHolding p i m q

/-- One step of a PORT job (R143, R144). -/
def State.portStep (s : State) (p : Port) (endState : SettleState) : State :=
  match s.reclaimChoice p with
  | none => s.completePortJob p endState
  | some i =>
    let h := (s.slot p i).holding
    s.requestReads .reclaimUnit (s.reclaimReads h) (fun t =>
      (t.reclaimHolding p i h).completeIfEmpty p endState)

/-- PORT_JOB_STEP (R143). Where the next grant is not the reclaim unit's or the head job is no PORT
job, no event is taken (log 1). -/
def execPortJobStep (u : Upset) (s : State) : Host.Outcome State Fault Refusal :=
  let t := s.upset u
  .next
    (if t.granted = some .reclaimUnit then
      match t.jobs with
      | [] => t
      | .purge _ :: _ => t
      | .delete _ :: _ => t
      | .port p e :: _ => (t.grantTo .reclaimUnit).portStep p e
    else t)

/-! ## A queue walk's step -/

/-- What the end of a walk makes of the queue: a PURGE leaves it ACTIVE, a DELETE cleared (R145). -/
def Queue.afterWalk (d : Queue) (delete : Bool) : Queue :=
  if delete then Queue.cleared else { d with state := .active }

/-- The end of the walk at the head of the list (R145). -/
def State.endWalk (s : State) (q : QueueNo) (delete : Bool) : State :=
  (s.setQueue q ((s.queue q).afterWalk delete)).popJob

/-- The head message of the list unlinked, freed and counted discarded (R145). -/
def State.walkHead (s : State) (q : QueueNo) (m : CellNo) : State :=
  ((s.unlink q .head).freeMessage m).raiseDiscarded q

/-- The job ends in the same grant if the list is now empty (R145). -/
def State.endIfEmpty (s : State) (q : QueueNo) (delete : Bool) : State :=
  if (s.queue q).list.isEmpty then s.endWalk q delete else s

/-- One step of a PURGE or DELETE job (R145). -/
def State.queueStep (s : State) (q : QueueNo) (delete : Bool) : State :=
  match (s.queue q).head? with
  | none => s.endWalk q delete
  | some m =>
    s.requestReads .reclaimUnit (s.freeReads m) (fun t => (t.walkHead q m).endIfEmpty q delete)

/-- QUEUE_WALK_STEP (R145). Where the next grant is not the reclaim unit's or the head job walks no
queue, no event is taken (log 1). -/
def execQueueWalkStep (u : Upset) (s : State) : Host.Outcome State Fault Refusal :=
  let t := s.upset u
  .next
    (if t.granted = some .reclaimUnit then
      match t.jobs with
      | [] => t
      | .port _ _ :: _ => t
      | .purge q :: _ => (t.grantTo .reclaimUnit).queueStep q false
      | .delete q :: _ => (t.grantTo .reclaimUnit).queueStep q true
    else t)

end Sys2Proof.Machine
end

