-- ==== Sys2Proof/Machine/Window.lean ====
section
/-! DEFINITION. Window.lean: the data window (spec/02 R32 to R40) and check errors on it (R3, R4,
R161 to R163). -/

namespace Sys2Proof.Machine

/-! ## The checks of R35 -/

/-- Where an access that passes the checks of R35 goes: the selected message, the cell and the cell
word (R33). -/
structure WindowTarget where
  message : CellNo
  cell : CellNo
  word : WordNo
  deriving DecidableEq, Repr

/-- What the checks of R35 make of an access. -/
inductive WindowCheck where
  /-- Check 1: the port is DOWN; completed with no flag (R38). -/
  | down
  /-- Checks 2 to 6. -/
  | refused
  /-- The mapping reads a message record whose parity mismatches (R39, R165). -/
  | mismatch (e : ControlEntry)
  /-- Check 7. -/
  | reaches (t : WindowTarget)
  deriving DecidableEq, Repr

/-- Checks 5 and 6 of R35 and the mapping of R33 for a selected handle. The mapping reads the message
record, which is the one control-store read of the access (R39, R165). -/
def State.windowMap (s : State) (p : Port) (h : Handle) (offset : DataOffset) : WindowCheck :=
  match s.validHandle p h with
  | none => .refused
  | some i =>
    if 64 * (s.slot p i).holding.cellCount ≤ offset.toNat then .refused
    else match (s.slot p i).holding.message? with
      | none => .refused
      | some m =>
        match s.mismatch [.record m] with
        | some e => .mismatch e
        | none =>
          match (s.messageCells m)[cellIndex offset]? with
          | none => .refused
          | some c => .reaches { message := m, cell := c, word := wordIndex offset }

/-- The checks of R35, in order. -/
def State.windowCheck (s : State) (p : Port) (offset : DataOffset) : WindowCheck :=
  if (s.port p).state = .down then .down
  else if s.device = .halted then .refused
  else if (s.port p).state = .reclaiming ∨ (s.port p).state = .fenced then .refused
  else match (s.interface p).select with
    | none => .refused
    | some h => s.windowMap p h offset

/-! ## Check errors (R3, R4, R161 to R163) -/

/-- A CORRECTED read raises the correctable count (R3, R4, R162). -/
def State.countCorrectable (s : State) : State := { s with correctable := raiseCount s.correctable }

/-- A DATA report taken by the capture register (R163). -/
def State.captureReport (s : State) (r : CaptureRecord) : State :=
  if s.capture.valid then { s with overflow := raiseCount s.overflow }
  else { s with capture := r }.raiseToAdmins (fun _ => true) .capture 0 Reasons.uncorrectable

/-- The message becomes damaged, and its record's parity is regenerated (R161). -/
def State.damage (s : State) (m : CellNo) : State :=
  (s.updateMessage m (fun r => { r with damaged := true })).writeEntry (.record m)

/-- The effects of an UNCORRECTABLE window access beside the access itself (R161). -/
def State.uncorrectableAccess (s : State) (p : Port) (t : WindowTarget) (a : Access) : State :=
  let u := ((s.markCell t.cell).damage t.message).setFlag p .data
  { u with uncorrectable := raiseCount u.uncorrectable }.captureReport
    { valid := true, kind := .data, location := t.cell, word := t.word, agent := .port p, access := a }

/-- The word as the access finds it: the bits that have flipped since it was written are turned over
first (log 10). -/
def State.wordRead (s : State) (t : WindowTarget) : ReadClass := classify (s.cellWord t.cell t.word)

/-! ## Window read -/

/-- A read that reaches the cell store (R3, R36). -/
def State.readReached (s : State) (p : Port) (t : WindowTarget) (high : Bool) : State :=
  match s.wordRead t with
  | .clean d => s.drive p (halfOf high d)
  | .corrected d => ((s.setCellWord t.cell t.word (encodeWord d)).countCorrectable).drive p (halfOf high d)
  | .uncorrectable d => (s.uncorrectableAccess p t .read).drive p (halfOf high d)

/-- A window read (R35, R36, R38, R166). -/
def State.windowRead (s : State) (p : Port) (offset : DataOffset) (flips : Flips) : State :=
  match s.windowCheck p offset with
  | .down => s.drive p 0
  | .refused => (s.setFlag p .window).drive p 0
  | .mismatch e => ((s.halt e (.port p)).setFlag p .window).drive p 0
  | .reaches t => (s.flipBits t.cell t.word flips).readReached p t (highHalf offset)

/-- WINDOW_READ (R36). -/
def execWindowRead (p : Port) (offset : DataOffset) (flips : Flips) (u : Upset) (s : State) :
    Host.Outcome State Fault Refusal :=
  .next ((s.upset u).windowRead p offset flips)

/-! ## Window write -/

/-- A write that reaches the cell store: the read-modify-write of R4 (R37). -/
def State.writeReached (s : State) (p : Port) (t : WindowTarget) (high : Bool) (data : Word) (strobes : Strobes) :
    State :=
  match s.wordRead t with
  | .clean d => s.setCellWord t.cell t.word (encodeWord (mergeHalf high strobes d data))
  | .corrected d => (s.setCellWord t.cell t.word (encodeWord (mergeHalf high strobes d data))).countCorrectable
  | .uncorrectable _ => s.uncorrectableAccess p t .write

/-- A window write (R35, R37, R38, R166). -/
def State.windowWrite (s : State) (p : Port) (offset : DataOffset) (data : Word) (strobes : Strobes)
    (flips : Flips) : State :=
  match s.windowCheck p offset with
  | .down => s
  | .refused => s.setFlag p .window
  | .mismatch e => (s.halt e (.port p)).setFlag p .window
  | .reaches t => (s.flipBits t.cell t.word flips).writeReached p t (highHalf offset) data strobes

/-- WINDOW_WRITE (R37). -/
def execWindowWrite (p : Port) (offset : DataOffset) (data : Word) (strobes : Strobes) (flips : Flips) (u : Upset)
    (s : State) : Host.Outcome State Fault Refusal :=
  .next ((s.upset u).windowWrite p offset data strobes flips)

end Sys2Proof.Machine
end

