-- ==== Sys2Proof/Machine/Registers.lean ====
section
/-! DEFINITION. Registers.lean: the register area of a port window: its decode, its writes and its
reads (spec/11, R63, R64, R169, R170). -/

namespace Sys2Proof.Machine

/-! ## Command word (R63, R64) -/

/-- The code a command-word write names: lanes without an active strobe are taken as zero (R170). -/
def commandCode (data : Word) (strobes : Strobes) : Option CommandCode :=
  CommandCode.ofCode ((strobed strobes data).extractLsb' 0 8)

/-- A command completed locally: outcome and result words written, the slot left IDLE (R64). -/
def State.completeLocally (s : State) (p : Port) (o : OutcomeCode) : State := s.writeOutcome p o noResults

/-- A command word accepted: the slot becomes WAITING with the command record, and the outcome word
takes the empty code (R63). -/
def State.acceptCommand (s : State) (p : Port) (c : CommandCode) : State :=
  s.setInterface p
    { s.interface p with
      slot := { (s.interface p).slot with status := .waiting { code := c, operands := (s.interface p).operands } }
      outcome := emptyOutcome }

/-- Checks 2 to 4 of R63, for a slot that is IDLE, with the outcomes of R64. -/
def State.commandToIdleSlot (s : State) (p : Port) (c : Option CommandCode) : State :=
  match (s.port p).state with
  | .fenced => s.completeLocally p .fenced
  | .reclaiming => s.completeLocally p .notReady
  | .down => s.completeLocally p .notReady
  | .attached =>
    match c with
    | none => s.completeLocally p .badOperand
    | some x => s.acceptCommand p x

/-- One command-word write (R63). -/
def State.writeCommandWord (s : State) (p : Port) (c : Option CommandCode) : State :=
  if (s.interface p).slot.status.busy then s.setFlag p .overrun else s.commandToIdleSlot p c

/-- A bus write to the command word; with no strobe active it has no effect (R170). -/
def State.commandWordWrite (s : State) (p : Port) (data : Word) (strobes : Strobes) : State :=
  if strobes = 0 then s else s.writeCommandWord p (commandCode data strobes)

/-- COMMAND_WORD_WRITE (R63). -/
def execCommandWordWrite (p : Port) (data : Word) (strobes : Strobes) (s : State) :
    Host.Outcome State Fault Refusal :=
  .next (s.commandWordWrite p data strobes)

/-! ## Status word -/

/-- The four sticky flags cleared by a status read (R68). -/
def State.clearFlags (s : State) (p : Port) : State := s.setInterface p (s.interface p).flagsCleared

/-- STATUS_READ (R68): the word is driven as it stands, and the four sticky flags clear. -/
def execStatusRead (p : Port) (s : State) : Host.Outcome State Fault Refusal :=
  .next ((s.clearFlags p).drive p (s.statusWord p))

/-! ## Window select register (R32, R38, R170) -/

/-- The contents a select write stores: a handle, or none with the present bit clear. -/
def selectOf (w : Word) : Option Handle := if w.getLsbD 8 then some (w.extractLsb' 0 8) else none

/-- A bus write to the window select register. -/
def State.selectWrite (s : State) (p : Port) (data : Word) (strobes : Strobes) : State :=
  if (s.port p).state = .down ∨ strobes = 0 then s
  else s.setInterface p { s.interface p with select := selectOf (strobed strobes data) }

/-- WINDOW_SELECT_WRITE (R32). -/
def execWindowSelectWrite (p : Port) (data : Word) (strobes : Strobes) (s : State) :
    Host.Outcome State Fault Refusal :=
  .next (s.selectWrite p data strobes)

/-! ## Port control register (R127, R170) -/

/-- The settings with only the bytes of active strobes changed; both lie in lane 0. -/
def PortInterface.withControl (i : PortInterface) (w : Word) : PortInterface :=
  { i with noticeEnable := w.getLsbD 0, systemLevel := w.extractLsb' 4 3 }

/-- A bus write to the port control register. -/
def State.controlWrite (s : State) (p : Port) (data : Word) (strobes : Strobes) : State :=
  if (s.port p).state = .down then s
  else s.setInterface p ((s.interface p).withControl (mergeBytes strobes (s.interface p).controlWord data))

/-- PORT_CONTROL_WRITE (R127). -/
def execPortControlWrite (p : Port) (data : Word) (strobes : Strobes) (s : State) :
    Host.Outcome State Fault Refusal :=
  .next (s.controlWrite p data strobes)

/-! ## Notice word and acknowledge (R124, R125) -/

/-- The notice word a read returns: the record it pushes, if any, and the depth after it (R124). -/
def NoticeUnit.readWord (u : NoticeUnit) : Word := noticeWord u.eligible u.afterRead.active.length

/-- The first pending record pushed onto the active stack, if it is eligible (R124). -/
def State.pushNotice (s : State) (p : Port) : State := s.setNoticeUnit p (s.noticeUnit p).afterRead

/-- NOTICE_READ (R124). -/
def execNoticeRead (p : Port) (s : State) : Host.Outcome State Fault Refusal :=
  .next ((s.pushNotice p).drive p (s.noticeUnit p).readWord)

/-- One acknowledge: the top entry popped, or NOACK set (R125). -/
def State.acknowledge (s : State) (p : Port) : State :=
  match (s.noticeUnit p).active with
  | [] => s.setFlag p .noack
  | _ :: rest => s.setNoticeUnit p { s.noticeUnit p with active := rest }

/-- A bus write to the acknowledge word: its data is ignored, and with no strobe active it has no
effect (R125, R170). -/
def State.acknowledgeWrite (s : State) (p : Port) (strobes : Strobes) : State :=
  if strobes = 0 then s else s.acknowledge p

/-- NOTICE_ACKNOWLEDGE (R125). -/
def execNoticeAcknowledge (p : Port) (_data : Word) (strobes : Strobes) (s : State) :
    Host.Outcome State Fault Refusal :=
  .next (s.acknowledgeWrite p strobes)

/-! ## Capture words (R164) -/

/-- The capture record released: valid clear, overflow count 0 (R164). -/
def State.releaseCapture (s : State) : State :=
  { s with capture := { s.capture with valid := false }, overflow := 0 }

/-- CAPTURE_WORD_4_READ (R164): the word is driven, and the record released. -/
def execCaptureWord4Read (p : Port) (s : State) : Host.Outcome State Fault Refusal :=
  .next (s.releaseCapture.drive p s.captureWord4)

/-! ## The register area map (R169) -/

/-- The operand word an offset names: 000h to 01Ch. -/
def operandIndex (offset : RegisterOffset) : Option (Fin 8) :=
  if h : offset.toNat / 4 < 8 then some ⟨offset.toNat / 4, h⟩ else none

/-- A bus write to an operand word: the bytes of active strobes change (R63, R170). -/
def State.operandWrite (s : State) (p : Port) (k : Fin 8) (data : Word) (strobes : Strobes) : State :=
  let i := s.interface p
  s.setInterface p { i with operands := i.operands.set k (mergeBytes strobes i.operands[k] data) }

/-- A bus write below the data window. A write to a read-only register and one to an offset the map
does not name are discarded (R169). -/
def State.registerWrite (s : State) (p : Port) (offset : RegisterOffset) (data : Word) (strobes : Strobes) : State :=
  match operandIndex offset with
  | some k => s.operandWrite p k data strobes
  | none =>
    if offset.toNat / 4 = 0x020 / 4 then s.commandWordWrite p data strobes
    else if offset.toNat / 4 = 0x044 / 4 then s.selectWrite p data strobes
    else if offset.toNat / 4 = 0x048 / 4 then s.controlWrite p data strobes
    else if offset.toNat / 4 = 0x054 / 4 then s.acknowledgeWrite p strobes
    else s

/-- The word a read below the data window returns: the register the map names there, zero for a
write-only register and for an offset the map does not name (R169). -/
def State.registerWord (s : State) (p : Port) (offset : RegisterOffset) : Word :=
  let i := s.interface p
  match operandIndex offset with
  | some k => i.operands[k]
  | none =>
    if offset.toNat / 4 = 0x024 / 4 then i.outcome
    else if h : 0x028 / 4 ≤ offset.toNat / 4 ∧ offset.toNat / 4 ≤ 0x034 / 4 then
      i.results[offset.toNat / 4 - 0x028 / 4]
    else if offset.toNat / 4 = 0x040 / 4 then s.statusWord p
    else if offset.toNat / 4 = 0x044 / 4 then selectWord i.select
    else if offset.toNat / 4 = 0x048 / 4 then i.controlWord
    else if offset.toNat / 4 = 0x050 / 4 then (s.noticeUnit p).readWord
    else if offset.toNat / 4 = 0x060 / 4 then s.captureWord1
    else if offset.toNat / 4 = 0x064 / 4 then s.captureWord2
    else if offset.toNat / 4 = 0x068 / 4 then s.captureWord3
    else if offset.toNat / 4 = 0x06C / 4 then s.captureWord4
    else 0

/-- What a read below the data window changes beside the data it drives: the status word, the notice
word and the fourth capture word have effects, every other read none (R68, R124, R164, R169). -/
def State.readEffect (s : State) (p : Port) (offset : RegisterOffset) : State :=
  if offset.toNat / 4 = 0x040 / 4 then s.clearFlags p
  else if offset.toNat / 4 = 0x050 / 4 then s.pushNotice p
  else if offset.toNat / 4 = 0x06C / 4 then s.releaseCapture
  else s

/-- A bus read below the data window: the word is driven as the state stands, with the read's effect
(R169). -/
def State.registerRead (s : State) (p : Port) (offset : RegisterOffset) : State :=
  (s.readEffect p offset).drive p (s.registerWord p offset)

/-- A window offset of the port window lies in the data window: 400h to 7FFh (R169). -/
def reachesDataWindow (offset : WindowOffset) : Bool := offset.getLsbD 10

/-- A bus access decoded by its offset within the port window: 400h to 7FFh is the data window, all
below it the register area and the unassigned span (R169). An access to the data window has no bit
flipped and no parity upset here; its own rows have them (log 16). -/
def State.busAccess (s : State) (p : Port) (offset : WindowOffset) (data : Word) (strobes : BusStrobes) :
    State :=
  if reachesDataWindow offset then
    match strobes with
    | .read => s.windowRead p (offset.extractLsb' 0 10) 0
    | .write active => s.windowWrite p (offset.extractLsb' 0 10) data active 0
  else
    match strobes with
    | .read => s.registerRead p (offset.extractLsb' 0 10)
    | .write active => s.registerWrite p (offset.extractLsb' 0 10) data active

/-- REGISTER_WRITE (R169): a bus access at an offset without a row of its own, a write or a read
(log 22). An offset with a row of its own is served as that row is (log 16). -/
def execRegisterWrite (p : Port) (offset : WindowOffset) (data : Word) (strobes : BusStrobes) (s : State) :
    Host.Outcome State Fault Refusal :=
  .next (s.busAccess p offset data strobes)

end Sys2Proof.Machine
end

