-- ==== Sys2Proof/Machine/Dispatch.lean ====
section
/-! DEFINITION. Dispatch.lean: one arm per command. -/

namespace Sys2Proof.Machine

def exec (i : Instr) (s : State) : Host.Outcome State Fault Refusal :=
  match i with
  | .powerOn lines => Sys2Proof.Machine.execPowerOn lines s
  | .deviceResetLineAsserted => Sys2Proof.Machine.execDeviceResetLineAsserted s
  | .deviceResetLineReleased => Sys2Proof.Machine.execDeviceResetLineReleased s
  | .portResetLineAsserted p => Sys2Proof.Machine.execPortResetLineAsserted p s
  | .portResetLineReleased p => Sys2Proof.Machine.execPortResetLineReleased p s
  | .allocate p u => Sys2Proof.Machine.execAllocate p u s
  | .put p u => Sys2Proof.Machine.execPut p u s
  | .take p u => Sys2Proof.Machine.execTake p u s
  | .release p u => Sys2Proof.Machine.execRelease p u s
  | .renew p => Sys2Proof.Machine.execRenew p s
  | .giveBack p u => Sys2Proof.Machine.execReturn p u s
  | .query p => Sys2Proof.Machine.execQuery p s
  | .claim p => Sys2Proof.Machine.execClaim p s
  | .unclaim p => Sys2Proof.Machine.execUnclaim p s
  | .format p => Sys2Proof.Machine.execFormat p s
  | .defineQueue p => Sys2Proof.Machine.execDefineQueue p s
  | .modifyQueue p => Sys2Proof.Machine.execModifyQueue p s
  | .purgeQueue p => Sys2Proof.Machine.execPurgeQueue p s
  | .deleteQueue p => Sys2Proof.Machine.execDeleteQueue p s
  | .setPort p => Sys2Proof.Machine.execSetPort p s
  | .fencePort p => Sys2Proof.Machine.execFencePort p s
  | .unfencePort p => Sys2Proof.Machine.execUnfencePort p s
  | .resetPort p => Sys2Proof.Machine.execResetPort p s
  | .registerWrite p offset data strobes => Sys2Proof.Machine.execRegisterWrite p offset data strobes s
  | .statusRead p => Sys2Proof.Machine.execStatusRead p s
  | .windowSelectWrite p data strobes => Sys2Proof.Machine.execWindowSelectWrite p data strobes s
  | .portControlWrite p data strobes => Sys2Proof.Machine.execPortControlWrite p data strobes s
  | .noticeRead p => Sys2Proof.Machine.execNoticeRead p s
  | .noticeAcknowledge p data strobes => Sys2Proof.Machine.execNoticeAcknowledge p data strobes s
  | .captureWord4Read p => Sys2Proof.Machine.execCaptureWord4Read p s
  | .windowRead p offset flips u => Sys2Proof.Machine.execWindowRead p offset flips u s
  | .windowWrite p offset data strobes flips u => Sys2Proof.Machine.execWindowWrite p offset data strobes flips u s
  | .tickAdvance => Sys2Proof.Machine.execTickAdvance s
  | .deadlineDue => Sys2Proof.Machine.execDeadlineDue s
  | .expiry u => Sys2Proof.Machine.execExpiry u s
  | .portJobStep u => Sys2Proof.Machine.execPortJobStep u s
  | .queueWalkStep u => Sys2Proof.Machine.execQueueWalkStep u s
  | .formatWalkCell flips u => Sys2Proof.Machine.execFormatWalkCell flips u s
  | .walkCompletion => Sys2Proof.Machine.execWalkCompletion s
  | .commandWordWrite p data strobes => Sys2Proof.Machine.execCommandWordWrite p data strobes s

end Sys2Proof.Machine
end

