-- ==== Sys2Proof/Machine/Step.lean ====
section
/-! DEFINITION. Step.lean: one step of the block: the command at the front of the queue, or idling. -/

namespace Sys2Proof.Machine

/-- One step: the command at the front of the queue is taken with the queue's rest; on an empty queue
the block idles (log 2). -/
def step (s : State) : Host.Outcome State Fault Refusal :=
  match s.pending with
  | [] => .next s
  | c :: rest => exec c { s with pending := rest }

/-- The state with the command a table word spells at the front of its queue; unchanged where the
word spells none. -/
def State.withFetchWord (s : State) (nbits w : Nat) : State :=
  match decodeTableWord nbits w with
  | none => s
  | some c => { s with pending := c :: s.pending }

end Sys2Proof.Machine
end

