-- ==== Sys2Proof/Safety.lean ====
section
/-! DEFINITION. Safety.lean: the words in which claims about the machine are made, and the laws of the
spec that every step keeps. -/

namespace Sys2Proof.Machine

/-! ## A command at its grant -/

/-- The next grant gives the engine the command `c` of port `p` with the operands `o` (R65, R69). -/
abbrev State.waits (s : State) (p : Port) (c : CommandCode) (o : Operands) : Prop :=
  s.granted = some (.port p) ∧
    (s.interface p).slot = { status := .waiting { code := c, operands := o }, discard := false }

/-- The same in a RUNNING part, where the command's own checks follow (R14). -/
abbrev State.takes (s : State) (p : Port) (c : CommandCode) (o : Operands) : Prop :=
  s.device = .running ∧ s.waits p c o

/-- A port's interface after a completion: words written, slot IDLE, all else kept (R65). -/
def PortInterface.afterCompletion (i : PortInterface) (x : OutcomeCode) (rs : Results) : PortInterface :=
  { i with slot := { status := .idle, discard := false }, outcome := x.word, results := rs }

/-- The completion of port `p`'s command as software and the arbiter see it: port `p` is the
last-granted requester, its words are written, and no other port's interface changes (R65, R70). -/
def State.completes (s t : State) (p : Port) (x : OutcomeCode) (rs : Results) : Prop :=
  t.lastGranted = .port p ∧ t.interface p = (s.interface p).afterCompletion x rs ∧
    ∀ r, r ≠ p → t.interface r = s.interface r

/-- The state in which port `p`'s command has completed and nothing else has changed (R66). -/
def State.answered (s : State) (p : Port) (x : OutcomeCode) (rs : Results) : State :=
  { s with
    lastGranted := .port p
    interfaces := s.interfaces.set p ((s.interface p).afterCompletion x rs) }

/-- The command of the table that the engine takes for a command code, with no parity upset before
it. -/
def CommandCode.command (p : Port) : CommandCode → Instr
  | .allocate => .allocate p none
  | .put => .put p none
  | .take => .take p none
  | .release => .release p none
  | .renew => .renew p
  | .giveBack => .giveBack p none
  | .query => .query p
  | .claim => .claim p
  | .unclaim => .unclaim p
  | .format => .format p
  | .defineQueue => .defineQueue p
  | .modifyQueue => .modifyQueue p
  | .purgeQueue => .purgeQueue p
  | .deleteQueue => .deleteQueue p
  | .setPort => .setPort p
  | .fencePort => .fencePort p
  | .unfencePort => .unfencePort p
  | .resetPort => .resetPort p

/-! ## Slots, handles, reads and the timeout list -/

/-- The handle `h` validly names slot `i` of port `p`: slot + 32 × generation, FRESH or TAKEN (R28). -/
def State.names (s : State) (p : Port) (h : Handle) (i : SlotNo) : Prop :=
  h.toNat = i.val + 32 * (s.slot p i).gen.toNat ∧ (s.slot p i).holding ≠ .empty

/-- The lowest-numbered EMPTY slot of port `p` is `i` (R26). -/
def State.lowestEmpty (s : State) (p : Port) (i : SlotNo) : Prop :=
  (s.slot p i).holding = .empty ∧ ∀ j, j < i → (s.slot p j).holding ≠ .empty

/-- No slot but slot `i` of port `p` differs. -/
def State.otherSlotsKept (s t : State) (p : Port) (i : SlotNo) : Prop :=
  ∀ r j, r ≠ p ∨ j ≠ i → t.slot r j = s.slot r j

/-- Slot `i` of port `p` has been emptied, its generation advanced modulo 8, and no other slot
differs (R27). -/
def State.slotEmptied (s t : State) (p : Port) (i : SlotNo) : Prop :=
  t.slot p i = { gen := (s.slot p i).gen + 1, holding := .empty } ∧ s.otherSlotsKept t p i

/-- The timeout list without the entry of slot `i` of port `p` (R103). -/
def State.timeoutsWithout (s : State) (p : Port) (i : SlotNo) : List TimeoutEntry :=
  s.timeouts.filter (fun e => !(e.port == p && e.slot == i))

/-- `new` is `old` with the entry `e` inserted at its place: after every due entry and every entry of
no greater remaining time, before the first of greater remaining time (R104). -/
def InsertedAtPlace (tick : BitVec 32) (e : TimeoutEntry) (old new : List TimeoutEntry) : Prop :=
  ∃ before after, old = before ++ after ∧ new = before ++ e :: after ∧
    (∀ x ∈ before, x.due = true ∨ remaining tick x.deadline ≤ remaining tick e.deadline) ∧
    ∀ x, after.head? = some x → x.due = false ∧ remaining tick e.deadline < remaining tick x.deadline

/-- None of the control-store entries has a parity mismatch (R165). -/
def State.readsClear (s : State) (reads : List ControlEntry) : Prop := ∀ e ∈ reads, e ∉ s.parityErrors

/-- `e` is the first of the entries read whose parity mismatches (R165). -/
def State.firstMismatch (s : State) (reads : List ControlEntry) (e : ControlEntry) : Prop :=
  ∃ before after, reads = before ++ e :: after ∧ s.readsClear before ∧ e ∈ s.parityErrors

/-- The entries whose stored parity mismatches once the entries of `written` have been written: parity
is written with an entry, and every other entry's stands (R165, log 11). -/
def State.parityWithout (s : State) (written : List ControlEntry) : List ControlEntry :=
  s.parityErrors.filter (fun e => !written.contains e)

/-- The location and word of the LINK record for an entry (R163). -/
def ControlEntry.location : ControlEntry → CellNo
  | .record m => m
  | .link c => c

/-- 0 for a message record and 1 for a free-list link (R163). -/
def ControlEntry.wordNo : ControlEntry → WordNo
  | .record _ => 0
  | .link _ => 1

/-- The state in which a control-store fault has halted the device and nothing else has changed
(R165, R166). -/
def State.haltedBy (s : State) (e : ControlEntry) (agent : Agent) : State :=
  { s with
    device := .halted
    capture :=
      { valid := true, kind := .link, location := ControlEntry.location e, word := ControlEntry.wordNo e,
        agent := agent, access := .read } }

/-- Every byte of the cell store outside the nine bytes of cell word `w` of cell `c` reads as before. -/
def State.otherBytesKept (s t : State) (c : CellNo) (w : WordNo) : Prop :=
  ∀ a, (a < dataAddress c w 0 ∨ dataAddress c w 0 + 8 ≤ a) → a ≠ checkAddress c w →
    Memory.read t.store a = Memory.read s.store a

/-! ## The round of the arbiter -/

/-- The place of a requester in the fixed round (R69). -/
def Requester.place : Requester → Nat
  | .port p => p.val
  | .holdTimer => 4
  | .reclaimUnit => 5

/-- How many requesters of the round stand between `last` and `r`, from the one after `last` (R70). -/
def Requester.distance (last r : Requester) : Nat := (r.place + 5 - last.place) % 6

/-! ## Notices -/

/-- The port is ATTACHED and holds the admin flag (R120). -/
def State.attachedAdmin (s : State) (r : Port) : Bool :=
  (s.port r).admin && decide ((s.port r).state = .attached)

/-- A PORT EVENT about port `p` as port `r` receives it, at its own system level (R120, R146). -/
def State.portEvent (s : State) (p r : Port) (reasons : Reasons) : Notice where
  kind := .portEvent
  source := BitVec.ofNat 6 p.val
  level := (s.interface r).systemLevel
  reasons := reasons

/-- The notice unit of port `r` after a PORT EVENT about port `p` (R121, R146). -/
def State.afterPortEvent (s : State) (p r : Port) (reasons : Reasons) : NoticeUnit :=
  if s.attachedAdmin r = true ∧ r ≠ p then (s.noticeUnit r).taking (s.portEvent p r reasons) else s.noticeUnit r

/-- The notice units after the crossings `found` of queue `q`, a QUEUE notice to its target if one
is present, ATTACHED and interested (R58, R121). -/
def State.afterCrossings (s : State) (q : QueueNo) (found : Reasons) (r : Port) : NoticeUnit :=
  let x := (s.queue q).settings
  if x.target = some r ∧ found &&& x.conditions ≠ 0 ∧ (s.port r).state = .attached then
    (s.noticeUnit r).taking
      { kind := .queue, source := BitVec.ofNat 6 q.val, level := x.level, reasons := found &&& x.conditions }
  else s.noticeUnit r

/-- The crossings of queue `q` when its queued count goes from its own to `new` (R48, R56). -/
def State.crossingsTo (s : State) (q : QueueNo) (new : Nat) : Reasons :=
  if (s.queue q).evaluated then (s.queue q).crossings (s.queue q).queued new else 0

/-- Low armed of queue `q` when its queued count goes from its own to `new` (R57). -/
def State.armedTo (s : State) (q : QueueNo) (new : Nat) : Bool :=
  if (s.queue q).evaluated then (s.queue q).armedAfter (s.queue q).queued new else (s.queue q).lowArmed

/-- Record `a` is served before record `b`: level, then kind, then source (R122). -/
def Notice.precedes (a b : Notice) : Prop :=
  a.level.toNat < b.level.toNat ∨
    (a.level = b.level ∧ (a.kind.code < b.kind.code ∨
      (a.kind = b.kind ∧ a.source.toNat < b.source.toNat)))

/-- `n` is the first pending record in the order of R122. -/
def NoticeUnit.firstPending (u : NoticeUnit) (n : Notice) : Prop :=
  n ∈ u.pendingSet ∧ ∀ x ∈ u.pendingSet, x ≠ n → n.precedes x

/-- The record is more urgent than the top of the stack, or the stack is empty (R124). -/
def NoticeUnit.mayPush (u : NoticeUnit) (n : Notice) : Prop :=
  ∀ top, u.active.head? = some top → n.level.toNat < top.level.toNat

/-! ## What frees and returns leave -/

/-- Message `m` has been freed between `s` and `t`: its unmarked cells stand at the free list's tail
in cell-list order, its marked cells are retired, and its record alone is gone (R9, R21). The appended
cells' links are written, and their parity with them (R165, log 11); the link of the old tail, written
too, has been read without a mismatch (log 12). -/
def State.freed (s t : State) (m : CellNo) : Prop :=
  t.freeList = s.freeList ++ (s.messageCells m).filter (fun c => !s.marked c) ∧
    (∀ c, c ∈ t.retired ↔ c ∈ s.retired ∨ (c ∈ s.messageCells m ∧ s.marked c = true)) ∧
    t.message m = none ∧ (∀ k, k ≠ m → t.message k = s.message k) ∧
    t.parityErrors = s.parityWithout (((s.messageCells m).filter (fun c => !s.marked c)).map .link)

/-- The pool and every record are as they were. -/
def State.poolKept (s t : State) : Prop :=
  t.freeList = s.freeList ∧ t.retired = s.retired ∧ t.messages = s.messages

/-- The return path has passed message `m` of record `r` to its source queue `q` with the given
disposition (R110 to R114). A requeue and a spill write only entries that have been read without a
mismatch, so no entry's parity changes (R165, log 12). -/
def State.returned (s t : State) (q : QueueNo) (m : CellNo) (r : Message) : Disposition → Prop
  | .requeued =>
    t.queue q =
        { s.queue q with
          list := m :: (s.queue q).list
          outstanding := (s.queue q).outstanding - 1
          redelivered := (s.queue q).redelivered + 1
          lowArmed := s.armedTo q ((s.queue q).queued + 1) } ∧
      (∀ x, x ≠ q → t.queue x = s.queue x) ∧
      t.message m = some { r with redelivery := r.redelivery + 1 } ∧ (∀ k, k ≠ m → t.message k = s.message k) ∧
      t.freeList = s.freeList ∧ t.retired = s.retired ∧ t.parityErrors = s.parityErrors
  | .spilled x =>
    t.queue x =
        { s.queue x with
          list := (s.queue x).list ++ [m]
          lowArmed := s.armedTo x ((s.queue x).queued + 1) } ∧
      t.queue q = { s.queue q with outstanding := (s.queue q).outstanding - 1 } ∧
      (∀ y, y ≠ q → y ≠ x → t.queue y = s.queue y) ∧
      t.message m = some { r with redelivery := 0, spilled := true } ∧ (∀ k, k ≠ m → t.message k = s.message k) ∧
      t.freeList = s.freeList ∧ t.retired = s.retired ∧ t.parityErrors = s.parityErrors
  | .discarded =>
    t.queue q =
        { s.queue q with
          outstanding := (s.queue q).outstanding - 1
          discarded := (s.queue q).discarded + 1 } ∧
      (∀ x, x ≠ q → t.queue x = s.queue x) ∧ s.freed t m

/-- The disposition of the dispositions' table (spec/06), read from the state before the return. -/
def State.tableDisposition (s : State) (q : QueueNo) (r : Message) (d : Disposition) : Prop :=
  match d with
  | .requeued =>
    (s.queue q).state = .active ∧ r.spilled = false ∧ r.redelivery < (s.queue q).settings.retryLimit
  | .spilled x =>
    (s.queue q).state = .active ∧ r.spilled = false ∧ (s.queue q).settings.retryLimit ≤ r.redelivery ∧
      (s.queue q).settings.spill = some x ∧ (s.queue x).state = .active ∧
      (s.queue x).occupancy < (s.queue x).settings.limit
  | .discarded =>
    (s.queue q).state ≠ .active ∨ r.spilled = true ∨
      ((s.queue q).settings.retryLimit ≤ r.redelivery ∧
        ∀ x, (s.queue q).settings.spill = some x →
          (s.queue x).state ≠ .active ∨ (s.queue x).settings.limit ≤ (s.queue x).occupancy)

/-- The notice unit of port `r` after the crossings a return finds (R112, R114). -/
def State.afterReturn (s : State) (q : QueueNo) (d : Disposition) (r : Port) : NoticeUnit :=
  match d with
  | .requeued => s.afterCrossings q (s.crossingsTo q ((s.queue q).queued + 1)) r
  | .spilled x => s.afterCrossings x (s.crossingsTo x ((s.queue x).queued + 1)) r
  | .discarded => s.noticeUnit r

/-- A queue whose outstanding count has fallen by one if it is the source (R49). -/
def State.lowered (s : State) (source : Option QueueNo) (q : QueueNo) : Queue :=
  if source = some q then { s.queue q with outstanding := (s.queue q).outstanding - 1 } else s.queue q

/-! ## The data window and the reclaim unit -/

/-- The window access of port `p` at `offset` passes the checks of R35 and reaches cell word `w` of
cell `c` of message `m` (R33). -/
def State.reachesCell (s : State) (p : Port) (offset : DataOffset) (m c : CellNo) (w : WordNo) : Prop :=
  s.device ≠ .halted ∧ (s.port p).state = .attached ∧ w.val = offset.toNat % 64 / 8 ∧
    ∃ h i r, (s.interface p).select = some h ∧ s.names p h i ∧ (s.slot p i).holding.message? = some m ∧
      s.message m = some r ∧ (s.slot p i).holding.cellCount = r.cells.length ∧
      offset.toNat < 64 * r.cells.length ∧ r.cells[offset.toNat / 64]? = some c ∧
      .record m ∉ s.parityErrors

/-- Slot `i` is the one a PORT job's step chooses: the TAKEN slot of smallest take age and lowest
number, else the lowest FRESH slot (R143). -/
def State.stepChooses (s : State) (p : Port) (i : SlotNo) : Prop :=
  (∃ f, (s.slot p i).holding.taken? = some f ∧
    ∀ j g, (s.slot p j).holding.taken? = some g →
      (s.takeAge p f).toNat < (s.takeAge p g).toNat ∨ ((s.takeAge p f).toNat = (s.takeAge p g).toNat ∧ i ≤ j)) ∨
  ((∀ j, (s.slot p j).holding.taken? = none) ∧ (s.slot p i).holding.isFresh = true ∧
    ∀ j, j < i → (s.slot p j).holding.isFresh = false)

/-- Slot `i` is the last FRESH or TAKEN slot of port `p`. -/
def State.lastHolding (s : State) (p : Port) (i : SlotNo) : Prop := ∀ j, j ≠ i → (s.slot p j).holding = .empty

/-- The port table, the reclaim list and the notice units after a PORT job of port `p` has ended
(R144): `v` is what each notice unit held before the RECLAIM DONE. -/
def State.portJobEnded (s t : State) (p : Port) (endState : SettleState) (js : List Job) (v : Port → NoticeUnit) :
    Prop :=
  t.jobs = js ∧
    t.port p =
      { s.port p with
        state := if (s.port p).state = .reclaiming
          then (match endState with | .attached => .attached | .fenced => .fenced) else (s.port p).state } ∧
    (∀ r, r ≠ p → t.port r = s.port r) ∧ t.noticeUnit p = v p ∧
    ∀ r, r ≠ p → t.noticeUnit r = if s.attachedAdmin r then (v r).taking (s.portEvent p r 4#3) else v r

/-- The same where the job goes on: nothing but the crossings' notices has changed. -/
def State.portJobGoesOn (s t : State) (v : Port → NoticeUnit) : Prop :=
  t.jobs = s.jobs ∧ t.ports = s.ports ∧ ∀ r, t.noticeUnit r = v r

/-! ## Laws every step keeps -/

/-- The part has been formatted since power-on or the device reset line: it is RUNNING, or HALTED
after RUNNING (R11). -/
def State.formatted (s : State) : Prop :=
  s.device = .running ∨ (s.device = .halted ∧ s.tickPeriod ≠ none)

/-- The part is UNFORMATTED or FORMATTING. -/
def State.unready (s : State) : Prop := s.device = .unformatted ∨ s.device = .formatting

/-- No slot is FRESH or TAKEN. -/
def State.holdsNothing (s : State) : Prop := ∀ p i, (s.slot p i).holding = .empty

/-- The cells of the free list, the retired set and every message, with repetitions. -/
def State.accountedCells (s : State) : List CellNo :=
  s.freeList ++ s.retired ++ s.messages.flatMap (fun e => e.2.cells)

/-- The accounting of the pool (R7, R10, R11, R16, R20, R21). -/
structure State.PoolLaw (s : State) : Prop where
  /-- The message table is in ascending order of number: one record for each number (R21). -/
  ascending : (s.messages.map (fun e => e.1)).Pairwise (fun a b => a < b)
  /-- A message is named by the first cell of its cell list (R20). -/
  named : ∀ e ∈ s.messages, e.2.cells.head? = some e.1
  /-- Before the format completes there is no message, no holding and no tick period (R24). -/
  unready : s.unready → s.messages = [] ∧ s.holdsNothing ∧ s.tickPeriod = none
  /-- An UNFORMATTED part has neither free nor retired nor marked cells (R12). -/
  unformatted : s.device = .unformatted → s.freeList = [] ∧ s.retired = [] ∧ s.faultMarks = []
  /-- The walk has sorted exactly the cells it has visited, and marked those it retired (R16). -/
  formatting : s.device = .formatting → ∃ w, s.walk = some w ∧ w.next ≤ 4096 ∧
    (s.freeList ++ s.retired).Perm ((List.finRange 4096).take w.next) ∧ ∀ c, s.marked c = true → c ∈ s.retired
  /-- Each of the 4096 cells is in exactly one of the three places (R11). -/
  accounted : s.formatted → s.accountedCells.Perm (List.finRange 4096)
  /-- A cell of the free list is unmarked (R7). -/
  free : ∀ c ∈ s.freeList, s.marked c = false
  /-- A retired cell is marked (R10). -/
  retired : ∀ c ∈ s.retired, s.marked c = true

/-- The messages in the queues' lists and in the holding slots, with repetitions. -/
def State.placedMessages (s : State) : List CellNo :=
  s.queues.toList.flatMap (fun d => d.list) ++
    Port.all.flatMap (fun p => (s.slots p).filterMap (fun x => x.holding.message?))

/-- Every message is in exactly one place, and a slot's cell count is the record's (R24, R25). -/
structure State.PlaceLaw (s : State) : Prop where
  /-- The queues' lists and the slots hold exactly the messages of the message table, each once. -/
  placed : s.placedMessages.Perm (s.messages.map (fun e => e.1))
  /-- A slot's cell count is the length of its message's cell list. -/
  counted : ∀ p i m, (s.slot p i).holding.message? = some m →
    (s.slot p i).holding.cellCount = (s.messageCells m).length

/-- Held cells do not exceed the quota (R31). -/
def State.QuotaLaw (s : State) : Prop := ∀ p, s.heldCells p ≤ (s.port p).quota

/-- A stack entry is more urgent than every entry beneath it, and at most 8 stand on it (R123). -/
def NoticeUnit.StackLaw (u : NoticeUnit) : Prop :=
  u.active.Pairwise (fun a b => a.level.toNat < b.level.toNat) ∧ u.active.length ≤ 8

/-- No two pending records share kind and source, and none is without a reason (R119). -/
def NoticeUnit.PendingLaw (u : NoticeUnit) : Prop :=
  u.pendingSet.Pairwise (fun a b => a.sameKey b = false) ∧ ∀ n ∈ u.pendingSet, n.reasons ≠ 0

/-- The port a PORT job names. -/
def Job.port? : Job → Option Port
  | .port p _ => some p
  | .purge _ => none
  | .delete _ => none

/-- The queue a walk job names. -/
def Job.queue? : Job → Option QueueNo
  | .port _ _ => none
  | .purge q => some q
  | .delete q => some q

/-- The laws of the ports (R52, R119, R123, R130, R134, R141, R149). -/
structure State.PortLaw (s : State) : Prop where
  /-- A port is DOWN exactly while its reset line is taken as asserted (R134). -/
  line : ∀ p, (s.interface p).line = true ↔ (s.port p).state = .down
  /-- A WAITING command belongs to an ATTACHED port (R71). -/
  waiting : ∀ p r, (s.interface p).slot.status = .waiting r → (s.port p).state = .attached
  /-- A claimant is ATTACHED (R52). -/
  claims : ∀ q p, (s.queue q).claimant = some p → (s.port p).state = .attached
  /-- A port that is not ATTACHED has an empty pending set and an empty active stack (R130). -/
  away : ∀ p, (s.port p).state ≠ .attached → s.noticeUnit p = .cleared
  /-- R123. -/
  stack : ∀ p, (s.noticeUnit p).StackLaw
  /-- R119. -/
  pending : ∀ p, (s.noticeUnit p).PendingLaw
  /-- A port has a PORT job exactly while it is RECLAIMING, or DOWN with one (R134). -/
  reclaiming : ∀ p, (s.port p).state = .reclaiming ↔ (s.port p).state ≠ .down ∧ s.hasPortJob p = true
  /-- The end state of a PORT job is the port's settle state (R144). -/
  endState : ∀ p e, Job.port p e ∈ s.jobs → (s.port p).settle = e
  /-- At most one job names a port (R141). -/
  once : (s.jobs.filterMap Job.port?).Nodup
  /-- An ATTACHED or FENCED port is in its settle state (R134). -/
  settled : ∀ p, ((s.port p).state = .attached → (s.port p).settle = .attached) ∧
    ((s.port p).state = .fenced → (s.port p).settle = .fenced)
  /-- Before the format completes no port is to settle FENCED and no tick period is recorded. -/
  unready : s.unready → s.tickPeriod = none ∧ ∀ p, (s.port p).settle = .attached
  /-- FORMAT's admin set is not empty (R15). -/
  adminSet : ∀ w, s.walk = some w → w.adminSet ≠ 0
  /-- From FORMAT completion on, some port has its admin flag set and settle state ATTACHED (R149). -/
  admin : s.formatted → ∃ p, (s.port p).admin = true ∧ (s.port p).settle = .attached

/-- A pending QUEUE record names a queue that is ACTIVE or PURGING and reports to that port at that
level (R44, R129, R154). -/
def State.QueueRecordLaw (s : State) : Prop :=
  ∀ p n, n ∈ (s.noticeUnit p).pendingSet → n.kind = .queue →
    ∃ q : QueueNo, n.source = BitVec.ofNat 6 q.val ∧ (s.queue q).evaluated = true ∧
      (s.queue q).settings.target = some p ∧ n.level = (s.queue q).settings.level

/-- The number of TAKEN, non-orphaned holdings over all ports whose source is `q` (R49). -/
def State.takenFrom (s : State) (q : QueueNo) : Nat :=
  (Port.all.map (fun p => (s.slots p).countP (fun x => decide (x.holding.source? = some q)))).sum

/-- The laws of the queues (R41, R42, R44, R49, R50, R141, R156). -/
structure State.QueueLaw (s : State) : Prop where
  /-- R49. -/
  outstanding : ∀ q, (s.queue q).outstanding = s.takenFrom q
  /-- R50. -/
  occupancy : ∀ q, (s.queue q).state ≠ .undefined → (s.queue q).occupancy ≤ (s.queue q).settings.limit
  /-- The settings of a queue that is not UNDEFINED lie in their ranges (R41, R150). -/
  settings : ∀ q, (s.queue q).state ≠ .undefined → (s.queue q).settings.accepted q = true
  /-- R44. -/
  undefined : ∀ q, (s.queue q).state = .undefined → s.queue q = .cleared
  /-- A DELETING queue has outstanding count 0 and no claimant (R156). -/
  deleting : ∀ q, (s.queue q).state = .deleting → (s.queue q).outstanding = 0 ∧ (s.queue q).claimant = none
  /-- A queue is PURGING exactly while a PURGE job names it (R42, R141). -/
  purgeJob : ∀ q, (s.queue q).state = .purging ↔ Job.purge q ∈ s.jobs
  /-- A queue is DELETING exactly while a DELETE job names it (R42, R141). -/
  deleteJob : ∀ q, (s.queue q).state = .deleting ↔ Job.delete q ∈ s.jobs
  /-- At most one job names a queue (R141). -/
  once : (s.jobs.filterMap Job.queue?).Nodup
  /-- Before the format completes every queue is UNDEFINED (R61). -/
  unready : s.unready → ∀ q, (s.queue q).state = .undefined
  /-- R44, R129. -/
  records : s.QueueRecordLaw

/-- `a` may stand before `b` in the timeout list at tick counter `tick` (R104). -/
def TimeoutEntry.mayPrecede (tick : BitVec 32) (a b : TimeoutEntry) : Prop :=
  a.due = true ∨ (b.due = false ∧ remaining tick a.deadline ≤ remaining tick b.deadline)

/-- The laws of the timeout list (R29, R102, R103, R104). -/
structure State.TimeoutLaw (s : State) : Prop where
  /-- An entry's slot is TAKEN with the entry's generation and deadline (R103). -/
  held : ∀ e ∈ s.timeouts, ∃ f, (s.slot e.port e.slot).holding.taken? = some f ∧
    (s.slot e.port e.slot).gen = e.gen ∧ f.deadline = some e.deadline
  /-- Each TAKEN holding with a deadline has an entry (R103). -/
  listed : ∀ p i f d, (s.slot p i).holding.taken? = some f → f.deadline = some d →
    ∃ e ∈ s.timeouts, e.port = p ∧ e.slot = i
  /-- No slot has two entries (R103). -/
  once : s.timeouts.Pairwise (fun a b => ¬(a.port = b.port ∧ a.slot = b.slot))
  /-- A holding with a deadline is not orphaned and has a captured hold time (R29). -/
  live : ∀ p i f d, (s.slot p i).holding.taken? = some f → f.deadline = some d →
    f.source ≠ none ∧ f.holdTime ≠ 0
  /-- Due entries first, then by remaining time (R104). -/
  ordered : s.timeouts.Pairwise (TimeoutEntry.mayPrecede s.tick)
  /-- The remaining time of an entry not yet due lies from 1 to 65535 (R102). -/
  ahead : ∀ e ∈ s.timeouts, e.due = false → 1 ≤ remaining s.tick e.deadline ∧ remaining s.tick e.deadline ≤ 65535

end Sys2Proof.Machine
end

