-- ==== Sys2Proof/WellFormed.lean ====
section
/-! DEFINITION. WellFormed.lean: which terms of Instr are events the bus of the QM4 can bring.
A bus access is at a bus word: the offset is a multiple of 4 (R33, R169). A REGISTER_WRITE names an
offset at which the access has no row of its own (spec/opcode_table.json; logs 16 and 22). Every other operand is well-formed by
its type. -/

namespace Sys2Proof

/-- Offsets of the register area map that have a behaviour of their own on a write: the command
word, the select register, the control register and the acknowledge word (spec/11). -/
def writeHasOwnRow (offset : WindowOffset) : Bool :=
  offset == 0x020#11 || offset == 0x044#11 || offset == 0x048#11 || offset == 0x054#11

/-- Offsets of the register area map that have a row of their own on a read: the status word, the
notice word and the fourth capture word (spec/11). -/
def readHasOwnRow (offset : WindowOffset) : Bool :=
  offset == 0x040#11 || offset == 0x050#11 || offset == 0x06C#11

/-- The access at this offset is another row's. -/
def accessHasOwnRow (offset : WindowOffset) : BusStrobes → Bool
  | .read => readHasOwnRow offset
  | .write _ => writeHasOwnRow offset

/-- A window offset of the port window lies in the data window: 400h to 7FFh (R169). -/
def inDataWindow (offset : WindowOffset) : Bool :=
  offset.getLsbD 10

/-- The check of R33: the data window is accessed at a multiple of 4. -/
def dataOffsetAligned (offset : DataOffset) : Bool :=
  offset.extractLsb' 0 2 == 0#2

/-- The well-formed commands. -/
def Instr.wellFormed : Instr → Bool
  | .powerOn _ => true
  | .deviceResetLineAsserted => true
  | .deviceResetLineReleased => true
  | .portResetLineAsserted _ => true
  | .portResetLineReleased _ => true
  | .allocate _ _ => true
  | .put _ _ => true
  | .take _ _ => true
  | .release _ _ => true
  | .renew _ => true
  | .giveBack _ _ => true
  | .query _ => true
  | .claim _ => true
  | .unclaim _ => true
  | .format _ => true
  | .defineQueue _ => true
  | .modifyQueue _ => true
  | .purgeQueue _ => true
  | .deleteQueue _ => true
  | .setPort _ => true
  | .fencePort _ => true
  | .unfencePort _ => true
  | .resetPort _ => true
  | .registerWrite _ offset _ strobes =>
    offset.extractLsb' 0 2 == 0#2 && !inDataWindow offset && !accessHasOwnRow offset strobes
  | .statusRead _ => true
  | .windowSelectWrite _ _ _ => true
  | .portControlWrite _ _ _ => true
  | .noticeRead _ => true
  | .noticeAcknowledge _ _ _ => true
  | .captureWord4Read _ => true
  | .windowRead _ offset _ _ => dataOffsetAligned offset
  | .windowWrite _ offset _ _ _ _ => dataOffsetAligned offset
  | .tickAdvance => true
  | .deadlineDue => true
  | .expiry _ => true
  | .portJobStep _ => true
  | .queueWalkStep _ => true
  | .formatWalkCell _ _ => true
  | .walkCompletion => true
  | .commandWordWrite _ _ _ => true

end Sys2Proof
end

