-- ==== Sys2Proof/Certificates/Slice0/Obligations.lean ====
section
/-! DEFINITION. Obligations.lean: the statements for the provers. -/

open Sys2Proof Sys2Proof.Machine

/-! ## The block as a machine -/

/-- A step takes the command at the front of the queue with the queue's rest. On an empty queue the
block idles, which is the model's choice (log 2). -/
def Obligations.StepTakesTheFrontCommand : Prop :=
  (∀ (s : State) (c : Instr) (rest : List Instr),
    s.pending = c :: rest → step s = exec c { s with pending := rest }) ∧
  ∀ s : State, s.pending = [] → step s = .next s

/-- Every command ends in a next state, and leaves the queue of commands as it is. That a command whose
event the part's state does not admit answers the state as it stands is the model's choice (log 1), and
so is the queue of commands itself (log 2). -/
def Obligations.EveryCommandAnswersANextState : Prop :=
  ∀ (i : Instr) (s : State), ∃ t, exec i s = .next t ∧ t.pending = s.pending

/-- The state at reset, where the spec gives the value (R10, R12, R61, R62, R67, R70, R118, R133,
R134, R148, R168). That the port reset lines are released is the model's choice (log 4); that the capture
record's zero fields are DATA, port 0 and READ is DEDUCED (log 19). -/
def Obligations.ResetHoldsThePowerOnValues : Prop :=
  State.reset.device = .unformatted ∧ State.reset.walk = none ∧ State.reset.tickPeriod = none ∧
  State.reset.faultMarks = [] ∧ State.reset.retired = [] ∧ State.reset.formatRetired = 0 ∧
  State.reset.freeList = [] ∧ State.reset.messages = [] ∧
  (∀ q, State.reset.queue q = .cleared) ∧
  (∀ p, State.reset.port p = { state := .attached, settle := .attached, quota := 0, admin := false, ordinal := 0 }) ∧
  (∀ p i, State.reset.slot p i = { gen := 0, holding := .empty }) ∧
  State.reset.lastGranted = .reclaimUnit ∧ State.reset.tick = 0 ∧ State.reset.timeouts = [] ∧
  State.reset.jobs = [] ∧
  State.reset.capture =
    { valid := false, kind := .data, location := 0, word := 0, agent := .port 0, access := .read } ∧
  State.reset.correctable = 0 ∧
  State.reset.uncorrectable = 0 ∧ State.reset.overflow = 0 ∧
  (∀ p, (State.reset.interface p).slot = { status := .idle, discard := false } ∧
    (State.reset.interface p).operands = Vector.replicate 8 0 ∧
    (State.reset.interface p).outcome = 0 ∧ (State.reset.interface p).results = Vector.replicate 4 0 ∧
    (State.reset.interface p).overrun = false ∧ (State.reset.interface p).window = false ∧
    (State.reset.interface p).data = false ∧ (State.reset.interface p).noack = false ∧
    (State.reset.interface p).select = none ∧ (State.reset.interface p).noticeEnable = false ∧
    (State.reset.interface p).systemLevel = 0) ∧
  ∀ p, State.reset.noticeUnit p = { pendingSet := [], active := [] }

/-- The state at reset meets every law that a step keeps. -/
def Obligations.ResetMeetsTheLaws : Prop :=
  Memory.wf State.reset.store = true ∧ State.reset.PoolLaw ∧ State.reset.PlaceLaw ∧ State.reset.QuotaLaw ∧
  State.reset.PortLaw ∧ State.reset.QueueLaw ∧ State.reset.TimeoutLaw

/-! ## Laws every step keeps -/

/-- The cell store keeps its one canonical form (log 8). -/
def Obligations.StepKeepsTheStoreCanonical : Prop :=
  ∀ s t : State, Memory.wf s.store = true → step s = .next t → Memory.wf t.store = true

/-- R11, with the laws it rests on. -/
def Obligations.StepKeepsThePoolLaw : Prop :=
  ∀ s t : State, s.PoolLaw → step s = .next t → t.PoolLaw

/-- R24, with the pool law it rests on. -/
def Obligations.StepKeepsEveryMessageInOnePlace : Prop :=
  ∀ s t : State, s.PoolLaw → s.PlaceLaw → step s = .next t → t.PlaceLaw

/-- R31. -/
def Obligations.StepKeepsHeldCellsWithinTheQuota : Prop :=
  ∀ s t : State, s.QuotaLaw → step s = .next t → t.QuotaLaw

/-- R52, R119, R123, R130, R134, R149. -/
def Obligations.StepKeepsThePortLaw : Prop :=
  ∀ s t : State, s.PortLaw → step s = .next t → t.PortLaw

/-- R44, R49, R50, R141. -/
def Obligations.StepKeepsTheQueueLaw : Prop :=
  ∀ s t : State, s.PortLaw → s.QueueLaw → step s = .next t → t.QueueLaw

/-- R103, R104. -/
def Obligations.StepKeepsTheTimeoutLaw : Prop :=
  ∀ s t : State, s.TimeoutLaw → step s = .next t → t.TimeoutLaw

/-! ## Grants and the device state -/

/-- R14: the device-state check of a granted command, and the refusal it gives. -/
def Obligations.DeviceStateCheckComesFirst : Prop :=
  (∀ (s : State) (c : CommandCode),
    (s.device = .halted → s.deviceCheck c = some .halted) ∧
    (s.device = .formatting → s.deviceCheck c = some .notReady) ∧
    (s.device = .unformatted → s.deviceLine = true → s.deviceCheck c = some .notReady) ∧
    (s.device = .unformatted → s.deviceLine = false → c = .format → s.deviceCheck c = none) ∧
    (s.device = .unformatted → c ≠ .format → s.deviceCheck c = some .notReady) ∧
    (s.device = .running → c = .format → s.deviceCheck c = some .notReady) ∧
    (s.device = .running → c ≠ .format → s.deviceCheck c = none)) ∧
  ∀ (s : State) (p : Port) (c : CommandCode) (o : Operands) (x : OutcomeCode),
    s.waits p c o → s.deviceCheck c = some x →
      exec (CommandCode.command p c) s = .next (s.answered p x noResults)

/-- R69 and R70: who requests, and whom the next search grants. -/
def Obligations.ArbiterGrantsTheNextInTheRound : Prop :=
  ∀ s : State,
    (∀ p, s.requests (.port p) = true ↔ ∃ r, (s.interface p).slot.status = .waiting r) ∧
    (s.requests .holdTimer = true ↔ s.device = .running ∧ ∃ e ∈ s.timeouts, e.due = true) ∧
    (s.requests .reclaimUnit = true ↔ s.device = .running ∧ s.jobs ≠ []) ∧
    (∀ r, s.granted = some r ↔
      s.requests r = true ∧ ∀ x, s.requests x = true → s.lastGranted.distance r ≤ s.lastGranted.distance x) ∧
    (s.granted = none ↔ ∀ x, s.requests x = false)

/-- R165 and R166: a command that reads a control-store entry of mismatched parity completes with
HALTED, halts the device with the LINK record of the first such entry, and has no other effect. Which
entries each command reads, and in which order, is DEDUCED (log 12). -/
def Obligations.ParityFaultHaltsWithNoOtherEffect : Prop :=
  ∀ (s₀ s : State) (u : Upset) (p : Port) (o : Operands) (e : ControlEntry), s₀.upset u = s →
    (∀ i m, s.takes p .allocate o → allocateCheck s p o.cellCount = .ok (i, m) →
      s.firstMismatch (s.takeCellsReads o.cellCount) e →
      exec (.allocate p u) s₀ = .next ((s.haltedBy e .engine).answered p .halted noResults)) ∧
    (∀ i q, s.takes p .put o → putCheck s p o = .ok (i, q) → s.firstMismatch (putReads s p i q o.listEnd) e →
      exec (.put p u) s₀ = .next ((s.haltedBy e .engine).answered p .halted noResults)) ∧
    (∀ q i m, s.takes p .take o → takeCheck s p o = .ok (q, i, m) →
      (e = .record m ∧ e ∈ s.parityErrors ∨
        s.readsClear [.record m] ∧ s.heldCells p + (s.messageCells m).length ≤ (s.port p).quota ∧
          s.firstMismatch (s.unlinkReads q o.listEnd) e) →
      exec (.take p u) s₀ = .next ((s.haltedBy e .engine).answered p .halted noResults)) ∧
    (∀ i m, s.takes p .release o → s.names p o.handle i → (s.slot p i).holding.message? = some m →
      s.firstMismatch (s.freeReads m) e →
      exec (.release p u) s₀ = .next ((s.haltedBy e .engine).answered p .halted noResults)) ∧
    (∀ i m c f, s.takes p .giveBack o → s.names p o.handle i → (s.slot p i).holding = .taken m c f →
      s.firstMismatch (match f.source with | none => s.freeReads m | some q => s.returnReads q m) e →
      exec (.giveBack p u) s₀ = .next ((s.haltedBy e .engine).answered p .halted noResults)) ∧
    (∀ x m c f q, s.granted = some .holdTimer → s.dueEntry = some x →
      (s.slot x.port x.slot).holding = .taken m c f → f.source = some q → s.firstMismatch (s.returnReads q m) e →
      exec (.expiry u) s₀ = .next { s.haltedBy e .engine with lastGranted := .holdTimer }) ∧
    (∀ r d i js, s.granted = some .reclaimUnit → s.jobs = .port r d :: js → s.reclaimChoice r = some i →
      s.firstMismatch (s.reclaimReads (s.slot r i).holding) e →
      exec (.portJobStep u) s₀ = .next { s.haltedBy e .reclaimUnit with lastGranted := .reclaimUnit }) ∧
    (∀ q m js, s.granted = some .reclaimUnit → (s.jobs = .purge q :: js ∨ s.jobs = .delete q :: js) →
      (s.queue q).head? = some m → s.firstMismatch (s.freeReads m) e →
      exec (.queueWalkStep u) s₀ = .next { s.haltedBy e .reclaimUnit with lastGranted := .reclaimUnit })

/-! ## The check code -/

/-- R2: a word just written reads CLEAN, every single-bit error reads CORRECTED with the data written,
and every double-bit error reads UNCORRECTABLE with the stored data. -/
def Obligations.SingleBitErrorsAreCorrectedAndDoubleDetected : Prop :=
  ∀ d : BitVec 64,
    classify (encodeWord d) = .clean d ∧
    (∀ i, i < 72 → classify (encodeWord d ^^^ (1#72 <<< i)) = .corrected d) ∧
    ∀ i j, i < 72 → j < 72 → i ≠ j →
      classify (encodeWord d ^^^ (1#72 <<< i) ^^^ (1#72 <<< j)) =
        .uncorrectable ((encodeWord d ^^^ (1#72 <<< i) ^^^ (1#72 <<< j)).extractLsb' 0 64)

/-! ## Power and the reset lines -/

/-- R12, R62, R67, R70, R118, R133, R134, R148, R168: power-on, from any state. That the cell store
then reads zero and that DRSTn stands asserted are the model's choices (logs 8 and 5); that the capture
record's zero fields are DATA, port 0 and READ is DEDUCED (log 19). -/
def Obligations.PowerOnSetsEveryBlock : Prop :=
  ∀ (s : State) (lines : PortSet), ∃ t, exec (.powerOn lines) s = .next t ∧
    t.pending = s.pending ∧ t.device = .unformatted ∧ t.deviceLine = true ∧ t.walk = none ∧ t.tickPeriod = none ∧
    t.store = [] ∧ t.faultMarks = [] ∧ t.retired = [] ∧ t.formatRetired = 0 ∧ t.freeList = [] ∧ t.messages = [] ∧
    t.parityErrors = [] ∧ (∀ q, t.queue q = .cleared) ∧
    (∀ p, t.port p =
      { state := if lines.getLsbD p.val then .down else .attached
        settle := .attached, quota := 0, admin := false, ordinal := 0 }) ∧
    (∀ p i, t.slot p i = { gen := 0, holding := .empty }) ∧ t.lastGranted = .reclaimUnit ∧ t.tick = 0 ∧
    t.timeouts = [] ∧ t.jobs = [] ∧
    t.capture = { valid := false, kind := .data, location := 0, word := 0, agent := .port 0, access := .read } ∧
    t.correctable = 0 ∧ t.uncorrectable = 0 ∧ t.overflow = 0 ∧
    (∀ p, (t.interface p).line = lines.getLsbD p.val ∧
      (t.interface p).slot = { status := .idle, discard := false } ∧
      (t.interface p).operands = Vector.replicate 8 0 ∧ (t.interface p).outcome = 0 ∧
      (t.interface p).results = Vector.replicate 4 0 ∧ (t.interface p).overrun = false ∧
      (t.interface p).window = false ∧ (t.interface p).data = false ∧ (t.interface p).noack = false ∧
      (t.interface p).select = none ∧ (t.interface p).noticeEnable = false ∧ (t.interface p).systemLevel = 0) ∧
    ∀ p, t.noticeUnit p = { pendingSet := [], active := [] }

/-- R12, R13, R74, R118, R133, R148, R168: the device reset line. With the line already taken as
asserted no event is taken, DEDUCED from R173 (log 3). -/
def Obligations.DeviceResetLineKeepsPayloadAndCapture : Prop :=
  ∀ s : State,
    (s.deviceLine = false → ∃ t, exec .deviceResetLineAsserted s = .next t ∧
      t.pending = s.pending ∧ t.store = s.store ∧ t.capture = s.capture ∧ t.correctable = s.correctable ∧
      t.uncorrectable = s.uncorrectable ∧ t.overflow = s.overflow ∧
      t.device = .unformatted ∧ t.deviceLine = true ∧ t.walk = none ∧ t.tickPeriod = none ∧
      t.faultMarks = [] ∧ t.retired = [] ∧ t.formatRetired = 0 ∧ t.freeList = [] ∧ t.messages = [] ∧
      t.parityErrors = [] ∧ (∀ q, t.queue q = .cleared) ∧
      (∀ p, t.port p =
        { state := if (s.interface p).line then .down else .attached
          settle := .attached, quota := 0, admin := false, ordinal := 0 }) ∧
      (∀ p i, t.slot p i = { gen := 0, holding := .empty }) ∧ t.lastGranted = .reclaimUnit ∧ t.tick = 0 ∧
      t.timeouts = [] ∧ t.jobs = [] ∧
      (∀ p, t.interface p =
        { line := (s.interface p).line
          slot := { status := .idle, discard := false }
          operands := Vector.replicate 8 0
          outcome := 0
          results := Vector.replicate 4 0
          overrun := false, window := false, data := false, noack := false
          select := none, noticeEnable := false, systemLevel := 0
          readData := (s.interface p).readData }) ∧
      ∀ p, t.noticeUnit p = { pendingSet := [], active := [] }) ∧
    (s.deviceLine = true → exec .deviceResetLineAsserted s = .next s) ∧
    exec .deviceResetLineReleased s = .next { s with deviceLine := false }

/-- R135 and R72: what the assertion of port `p`'s reset line does, from each state it can find. With
the line already taken as asserted no event is taken, DEDUCED from R173 (log 3). -/
def Obligations.PortResetAssertionTakesThePortDown : Prop :=
  ∀ (s : State) (p : Port),
    ((s.interface p).line = true → exec (.portResetLineAsserted p) s = .next s) ∧
    ((s.interface p).line = false → (s.port p).state ≠ .down → ∃ t, exec (.portResetLineAsserted p) s = .next t ∧
      t.port p =
        { s.port p with
          state := .down
          settle := if (s.port p).state = .attached then .attached else (s.port p).settle } ∧
      (∀ r, r ≠ p → t.port r = s.port r) ∧
      (∀ q, t.queue q =
        if (s.queue q).claimant = some p then { s.queue q with claimant := none } else s.queue q) ∧
      t.noticeUnit p = { pendingSet := [], active := [] } ∧
      (∀ r, r ≠ p → t.noticeUnit r =
        if s.device = .halted then s.noticeUnit r else s.afterPortEvent p r 1#3) ∧
      t.jobs =
        (if (s.port p).state = .attached ∧ s.device ≠ .halted ∧ s.holdsAny p = true
          then s.jobs ++ [.port p .attached] else s.jobs) ∧
      t.interface p =
        { line := true
          slot := (t.interface p).slot
          operands := Vector.replicate 8 0
          outcome := 0
          results := Vector.replicate 4 0
          overrun := false, window := false, data := false, noack := false
          select := none, noticeEnable := false, systemLevel := 0
          readData := (s.interface p).readData } ∧
      ((s.interface p).slot.status = .idle → (t.interface p).slot = (s.interface p).slot) ∧
      (∀ r, (s.interface p).slot.status = .waiting r →
        (t.interface p).slot = { status := .idle, discard := false }) ∧
      (∀ r, (s.interface p).slot.status = .running r → r.code = .format →
        (t.interface p).slot = { status := .running r, discard := true }) ∧
      (∀ r, r ≠ p → t.interface r = s.interface r) ∧
      t = { s with
        ports := t.ports
        queues := t.queues
        notices := t.notices
        jobs := t.jobs
        interfaces := t.interfaces })

/-- R136 and R72: the release of port `p`'s reset line. With the line already taken as released no event
is taken, DEDUCED from R173 (log 3). -/
def Obligations.PortResetReleaseRestoresThePort : Prop :=
  ∀ (s : State) (p : Port),
    ((s.interface p).line = false → exec (.portResetLineReleased p) s = .next s) ∧
    ((s.interface p).line = true → ∃ t, exec (.portResetLineReleased p) s = .next t ∧
      (s.hasPortJob p = true → (t.port p).state = .reclaiming) ∧
      (s.hasPortJob p = false → (s.port p).settle = .attached → (t.port p).state = .attached) ∧
      (s.hasPortJob p = false → (s.port p).settle = .fenced → (t.port p).state = .fenced) ∧
      t.port p = { s.port p with state := (t.port p).state } ∧ (∀ r, r ≠ p → t.port r = s.port r) ∧
      t.interface p =
        { s.interface p with
          line := false
          operands := Vector.replicate 8 0
          outcome := 0
          results := Vector.replicate 4 0 } ∧
      (∀ r, r ≠ p → t.interface r = s.interface r) ∧
      t = { s with ports := t.ports, interfaces := t.interfaces })

/-! ## FORMAT -/

/-- R15: FORMAT in an UNFORMATTED part whose device reset line is released. -/
def Obligations.FormatChecksAndStartsTheWalk : Prop :=
  ∀ (s : State) (p : Port) (o : Operands), s.device = .unformatted → s.deviceLine = false → s.waits p .format o →
    (o.adminSet = 0 → exec (.format p) s = .next (s.answered p .badOperand noResults)) ∧
    (o.adminSet ≠ 0 → o.period ≠ 1 → o.period ≠ 10 → o.period ≠ 100 → o.period ≠ 1000 →
      exec (.format p) s = .next (s.answered p .badOperand noResults)) ∧
    ∀ t : TickPeriod, o.adminSet ≠ 0 → o.period = t.microseconds →
      exec (.format p) s = .next
        { s with
          lastGranted := .port p
          walk := some { issuer := p, adminSet := o.adminSet, period := t, next := 0 }
          formatRetired := 0
          device := .formatting
          interfaces := s.interfaces.set p
            { s.interface p with slot := { status := .running { code := .format, operands := o }, discard := false } } }

/-- R16, R19 and R166: the visit of one cell of the walk. `flips` says which bits the verify reads
find different from the zeros written (log 10). That the append reads exactly the link of the free
list's tail is DEDUCED (log 12). A parity fault on that link halts the device; the FORMAT completes with
HALTED, discarded where its slot carries the discard mark. That the cell's format writes are then left
out too, and that the walk is then absent, is DEDUCED (log 18). The appended cell's link is written, and
its parity with it (R165, log 11). -/
def Obligations.FormatWalkSortsTheCellOrHalts : Prop :=
  ∀ (s₀ s : State) (u : Upset) (flips : Vector Flips 8) (w : FormatWalk) (c : CellNo), s₀.upset u = s →
    s.device = .formatting → s.walk = some w → w.next = c.val → ∃ verified : Bool,
      (verified = true ↔ ∀ k : WordNo, classify (encodeWord 0 ^^^ flips[k]) = .clean 0) ∧
      (∀ x, verified = true → s.freeList.getLast? = some x → .link x ∈ s.parityErrors →
        exec (.formatWalkCell flips u) s₀ = .next
          { s.haltedBy (.link x) .engine with
            walk := none
            interfaces := s.interfaces.set w.issuer
              (if (s.interface w.issuer).slot.discard
                then { s.interface w.issuer with slot := { status := .idle, discard := false } }
                else (s.interface w.issuer).afterCompletion .halted noResults) }) ∧
      ((verified = true → ∀ x, s.freeList.getLast? = some x → .link x ∉ s.parityErrors) →
        ∃ t, exec (.formatWalkCell flips u) s₀ = .next t ∧
          (∀ k, t.cellWord c k = encodeWord 0 ^^^ flips[k]) ∧
          (∀ a, (a < 64 * c.val ∨ 64 * c.val + 64 ≤ a) → (a < 262144 + 8 * c.val ∨ 262144 + 8 * c.val + 8 ≤ a) →
            Memory.read t.store a = Memory.read s.store a) ∧
          t.freeList = (if verified then s.freeList ++ [c] else s.freeList) ∧
          (∀ x, x ∈ t.retired ↔ x ∈ s.retired ∨ (verified = false ∧ x = c)) ∧
          (∀ x, t.marked x = true ↔ s.marked x = true ∨ (verified = false ∧ x = c)) ∧
          t.formatRetired = (if verified then s.formatRetired else s.formatRetired + 1) ∧
          t.walk = some { w with next := w.next + 1 } ∧
          t.parityErrors = (if verified then s.parityWithout [.link c] else s.parityErrors) ∧
          t = { s with
            store := t.store
            freeList := t.freeList
            parityErrors := t.parityErrors
            retired := t.retired
            faultMarks := t.faultMarks
            formatRetired := t.formatRetired
            walk := t.walk })

/-- R17, and R72 for a FORMAT whose slot carries the discard mark. With the message table the mismatches
of its records are gone, and those of the free-list links stand (R165, log 11). -/
def Obligations.WalkCompletionMakesThePartRunning : Prop :=
  ∀ (s : State) (w : FormatWalk), s.device = .formatting → s.walk = some w → w.next = 4096 →
    ∃ t, exec .walkCompletion s = .next t ∧
      (∀ q, t.queue q = .cleared) ∧ t.messages = [] ∧
      (∀ p i, t.slot p i = { gen := 0, holding := .empty }) ∧
      (∀ p, t.noticeUnit p = { pendingSet := [], active := [] }) ∧
      (∀ p, t.port p =
        { state := (s.port p).state, settle := (s.port p).settle, quota := 1024
          admin := w.adminSet.getLsbD p.val, ordinal := 0 }) ∧
      t.tickPeriod = some w.period ∧ t.tick = 0 ∧ t.timeouts = [] ∧ t.device = .running ∧ t.walk = none ∧
      ((s.interface w.issuer).slot.discard = false →
        t.interface w.issuer = (s.interface w.issuer).afterCompletion .ok noResults) ∧
      ((s.interface w.issuer).slot.discard = true →
        t.interface w.issuer = { s.interface w.issuer with slot := { status := .idle, discard := false } }) ∧
      (∀ r, r ≠ w.issuer → t.interface r = s.interface r) ∧
      t.parityErrors =
        s.parityErrors.filter (fun e => match e with | .record _ => false | .link _ => true) ∧
      t = { s with
        queues := t.queues
        messages := t.messages
        parityErrors := t.parityErrors
        holdings := t.holdings
        notices := t.notices
        ports := t.ports
        tickPeriod := t.tickPeriod
        tick := t.tick
        timeouts := t.timeouts
        device := t.device
        walk := t.walk
        interfaces := t.interfaces }

/-! ## Message commands -/

/-- R78: the checks of ALLOCATE, each with the outcome it gives and nothing else changed. -/
def Obligations.AllocateChecksInOrder : Prop :=
  ∀ (s₀ s : State) (u : Upset) (p : Port) (o : Operands), s₀.upset u = s → s.takes p .allocate o →
    (o.cellCount < 1 ∨ 16 < o.cellCount → exec (.allocate p u) s₀ = .next (s.answered p .badOperand noResults)) ∧
    (1 ≤ o.cellCount → o.cellCount ≤ 16 → (∀ i, (s.slot p i).holding ≠ .empty) →
      exec (.allocate p u) s₀ = .next (s.answered p .noSlot noResults)) ∧
    ∀ i, 1 ≤ o.cellCount → o.cellCount ≤ 16 → (s.slot p i).holding = .empty →
      ((s.port p).quota < s.heldCells p + o.cellCount →
        exec (.allocate p u) s₀ = .next (s.answered p .quota noResults)) ∧
      (s.heldCells p + o.cellCount ≤ (s.port p).quota → s.freeList.length < o.cellCount →
        exec (.allocate p u) s₀ = .next (s.answered p .noCells noResults))

/-- R79, R8, R21, R26: an ALLOCATE that passes its checks. The new record is written, and its parity with
it (R165, log 11). -/
def Obligations.AllocateCreatesAFreshHolding : Prop :=
  ∀ (s₀ s : State) (u : Upset) (p : Port) (o : Operands) (i : SlotNo) (m : CellNo) (cells rest : List CellNo),
    s₀.upset u = s → s.takes p .allocate o → 1 ≤ o.cellCount → o.cellCount ≤ 16 → s.lowestEmpty p i →
    s.heldCells p + o.cellCount ≤ (s.port p).quota → s.freeList = cells ++ rest → cells.length = o.cellCount →
    cells.head? = some m → s.readsClear (cells.map .link) →
    ∃ t, exec (.allocate p u) s₀ = .next t ∧
      s.completes t p .ok #v[BitVec.ofNat 32 (i.val + 32 * (s.slot p i).gen.toNat), 0, 0, 0] ∧
      t.freeList = rest ∧
      t.message m = some
        { cells := cells, length := 0, tag := 0, origin := p, redelivery := 0, damaged := false, spilled := false } ∧
      (∀ k, k ≠ m → t.message k = s.message k) ∧
      t.slot p i = { gen := (s.slot p i).gen, holding := .fresh m o.cellCount } ∧ s.otherSlotsKept t p i ∧
      t.heldCells p = s.heldCells p + o.cellCount ∧
      t.parityErrors = s.parityWithout [.record m] ∧
      t = { s with
        lastGranted := t.lastGranted
        interfaces := t.interfaces
        freeList := t.freeList
        messages := t.messages
        parityErrors := t.parityErrors
        holdings := t.holdings }

/-- R80: the checks of PUT, each with the outcome it gives and nothing else changed. -/
def Obligations.PutChecksInOrder : Prop :=
  ∀ (s₀ s : State) (u : Upset) (p : Port) (o : Operands), s₀.upset u = s → s.takes p .put o →
    ((∀ i, ¬ s.names p o.handle i) → exec (.put p u) s₀ = .next (s.answered p .stale noResults)) ∧
    ∀ i, s.names p o.handle i →
      (64 ≤ o.queueField → exec (.put p u) s₀ = .next (s.answered p .badOperand noResults)) ∧
      ∀ q : QueueNo, q.val = o.queueField →
        ((s.queue q).state = .undefined → exec (.put p u) s₀ = .next (s.answered p .noQueue noResults)) ∧
        ((s.queue q).state = .purging ∨ (s.queue q).state = .deleting →
          exec (.put p u) s₀ = .next (s.answered p .queueBusy noResults)) ∧
        ((s.queue q).state = .active → (s.queue q).settings.putSet.getLsbD p.val = false →
          exec (.put p u) s₀ = .next (s.answered p .noRight noResults)) ∧
        ((s.queue q).state = .active → (s.queue q).settings.putSet.getLsbD p.val = true →
          ((∃ m c, (s.slot p i).holding = .fresh m c ∧ (o.length = 0 ∨ 64 * c < o.length)) ∨
            (∃ m c f, (s.slot p i).holding = .taken m c f ∧ o.length ≠ 0) →
              exec (.put p u) s₀ = .next (s.answered p .badOperand noResults)) ∧
          ((∃ m c, (s.slot p i).holding = .fresh m c ∧ 1 ≤ o.length ∧ o.length ≤ 64 * c) ∨
            (∃ m c f, (s.slot p i).holding = .taken m c f ∧ o.length = 0) →
              (s.queue q).settings.limit ≤ (s.queue q).occupancy →
              exec (.put p u) s₀ = .next (s.answered p .queueFull noResults)))

/-- R81, R46, R27: a PUT of a FRESH holding. -/
def Obligations.PutPublishesAFreshMessage : Prop :=
  ∀ (s₀ s : State) (u : Upset) (p : Port) (o : Operands) (i : SlotNo) (q : QueueNo) (m : CellNo) (c : Nat)
    (r : Message), s₀.upset u = s → s.takes p .put o → s.names p o.handle i → q.val = o.queueField →
    (s.queue q).state = .active → (s.queue q).settings.putSet.getLsbD p.val = true →
    (s.slot p i).holding = .fresh m c → 1 ≤ o.length → o.length ≤ 64 * c →
    (s.queue q).occupancy < (s.queue q).settings.limit → s.message m = some r →
    s.readsClear (putReads s p i q o.listEnd) →
    ∃ t, exec (.put p u) s₀ = .next t ∧ s.completes t p .ok noResults ∧
      t.queue q =
        { s.queue q with
          list := if o.listEnd = .head then m :: (s.queue q).list else (s.queue q).list ++ [m]
          lowArmed := s.armedTo q ((s.queue q).queued + 1) } ∧
      (∀ x, x ≠ q → t.queue x = s.queue x) ∧
      t.message m = some { r with length := o.length, tag := o.tag } ∧ (∀ k, k ≠ m → t.message k = s.message k) ∧
      s.slotEmptied t p i ∧ t.heldCells p + c = s.heldCells p ∧
      (∀ x, t.noticeUnit x = s.afterCrossings q (s.crossingsTo q ((s.queue q).queued + 1)) x) ∧
      t = { s with
        lastGranted := t.lastGranted
        interfaces := t.interfaces
        queues := t.queues
        messages := t.messages
        holdings := t.holdings
        notices := t.notices }

/-- R82, R46, R27: a PUT of a TAKEN holding, orphaned or not, forwards the message. -/
def Obligations.PutForwardsATakenMessage : Prop :=
  ∀ (s₀ s : State) (u : Upset) (p : Port) (o : Operands) (i : SlotNo) (q : QueueNo) (m : CellNo) (c : Nat)
    (f : TakenFields) (r : Message), s₀.upset u = s → s.takes p .put o → s.names p o.handle i →
    q.val = o.queueField → (s.queue q).state = .active → (s.queue q).settings.putSet.getLsbD p.val = true →
    (s.slot p i).holding = .taken m c f → o.length = 0 →
    (s.queue q).occupancy < (s.queue q).settings.limit → s.message m = some r →
    s.readsClear (putReads s p i q o.listEnd) →
    ∃ t, exec (.put p u) s₀ = .next t ∧ s.completes t p .ok noResults ∧
      t.queue q =
        { s.lowered f.source q with
          list := if o.listEnd = .head then m :: (s.queue q).list else (s.queue q).list ++ [m]
          lowArmed := s.armedTo q ((s.queue q).queued + 1) } ∧
      (∀ x, x ≠ q → t.queue x = s.lowered f.source x) ∧
      t.message m = some { r with redelivery := 0, spilled := false } ∧ (∀ k, k ≠ m → t.message k = s.message k) ∧
      s.slotEmptied t p i ∧ t.heldCells p + c = s.heldCells p ∧ t.timeouts = s.timeoutsWithout p i ∧
      (∀ x, t.noticeUnit x = s.afterCrossings q (s.crossingsTo q ((s.queue q).queued + 1)) x) ∧
      t = { s with
        lastGranted := t.lastGranted
        interfaces := t.interfaces
        queues := t.queues
        messages := t.messages
        holdings := t.holdings
        timeouts := t.timeouts
        notices := t.notices }

/-- R84: the checks of TAKE, each with the outcome it gives and nothing else changed. -/
def Obligations.TakeChecksInOrder : Prop :=
  ∀ (s₀ s : State) (u : Upset) (p : Port) (o : Operands), s₀.upset u = s → s.takes p .take o →
    (64 ≤ o.queueField → exec (.take p u) s₀ = .next (s.answered p .badOperand noResults)) ∧
    ∀ q : QueueNo, q.val = o.queueField →
      ((s.queue q).state = .undefined → exec (.take p u) s₀ = .next (s.answered p .noQueue noResults)) ∧
      ((s.queue q).state = .purging ∨ (s.queue q).state = .deleting →
        exec (.take p u) s₀ = .next (s.answered p .queueBusy noResults)) ∧
      ((s.queue q).state = .active → (s.queue q).settings.takeSet.getLsbD p.val = false →
        exec (.take p u) s₀ = .next (s.answered p .noRight noResults)) ∧
      ((s.queue q).state = .active → (s.queue q).settings.takeSet.getLsbD p.val = true →
        (∀ r, (s.queue q).claimant = some r → r ≠ p →
          exec (.take p u) s₀ = .next (s.answered p .claimed noResults)) ∧
        ((s.queue q).claimant = none ∨ (s.queue q).claimant = some p →
          ((s.queue q).list = [] → exec (.take p u) s₀ = .next (s.answered p .queueEmpty noResults)) ∧
          ((s.queue q).list ≠ [] → (∀ i, (s.slot p i).holding ≠ .empty) →
            exec (.take p u) s₀ = .next (s.answered p .noSlot noResults)) ∧
          ∀ i m r, (s.slot p i).holding = .empty →
            (if o.listEnd = .head then (s.queue q).list.head? else (s.queue q).list.getLast?) = some m →
            s.message m = some r → s.readsClear [.record m] →
            (s.port p).quota < s.heldCells p + r.cells.length →
            exec (.take p u) s₀ = .next (s.answered p .quota noResults)))

/-- R85, R86, R29, R30, R47, R104: a TAKE that passes its checks. -/
def Obligations.TakeMovesTheEndMessageIntoATakenSlot : Prop :=
  ∀ (s₀ s : State) (u : Upset) (p : Port) (o : Operands) (q : QueueNo) (i : SlotNo) (m : CellNo)
    (rest : List CellNo) (r : Message), s₀.upset u = s → s.takes p .take o → q.val = o.queueField →
    (s.queue q).state = .active → (s.queue q).settings.takeSet.getLsbD p.val = true →
    ((s.queue q).claimant = none ∨ (s.queue q).claimant = some p) →
    (s.queue q).list = (if o.listEnd = .head then m :: rest else rest ++ [m]) → s.lowestEmpty p i →
    s.message m = some r → s.heldCells p + r.cells.length ≤ (s.port p).quota →
    s.readsClear (.record m :: s.unlinkReads q o.listEnd) →
    ∃ t deadline, exec (.take p u) s₀ = .next t ∧
      s.completes t p .ok
        #v[field 0 8 (i.val + 32 * (s.slot p i).gen.toNat) ||| field 8 4 r.redelivery |||
            field 16 5 r.cells.length ||| flagBit 24 r.damaged ||| flagBit 25 r.spilled,
          field 0 11 r.length ||| field 16 2 r.origin.val, field 0 16 r.tag.toNat, 0] ∧
      t.queue q =
        { s.queue q with
          list := rest
          outstanding := (s.queue q).outstanding + 1
          delivered := (s.queue q).delivered + 1
          lowArmed := s.armedTo q rest.length } ∧
      (∀ x, x ≠ q → t.queue x = s.queue x) ∧
      t.slot p i =
        { gen := (s.slot p i).gen
          holding := .taken m r.cells.length
            { source := some q, ordinal := (s.port p).ordinal
              holdTime := (s.queue q).settings.holdTime, deadline := deadline } } ∧
      s.otherSlotsKept t p i ∧
      t.port p = { s.port p with ordinal := (s.port p).ordinal + 1 } ∧ (∀ x, x ≠ p → t.port x = s.port x) ∧
      t.heldCells p = s.heldCells p + r.cells.length ∧
      ((s.queue q).settings.holdTime = 0 → deadline = none ∧ t.timeouts = s.timeouts) ∧
      ((s.queue q).settings.holdTime ≠ 0 →
        deadline = some (s.tick + BitVec.ofNat 32 (s.queue q).settings.holdTime.toNat) ∧
        InsertedAtPlace s.tick
          { port := p, slot := i, gen := (s.slot p i).gen
            deadline := s.tick + BitVec.ofNat 32 (s.queue q).settings.holdTime.toNat, due := false }
          s.timeouts t.timeouts) ∧
      (∀ x, t.noticeUnit x = s.afterCrossings q (s.crossingsTo q rest.length) x) ∧
      t = { s with
        lastGranted := t.lastGranted
        interfaces := t.interfaces
        queues := t.queues
        holdings := t.holdings
        ports := t.ports
        timeouts := t.timeouts
        notices := t.notices }

/-- R88 and R89: RELEASE. The parity of the entries that the free writes is log 11's, the entries it reads
log 12's. -/
def Obligations.ReleaseFreesTheHeldMessage : Prop :=
  ∀ (s₀ s : State) (u : Upset) (p : Port) (o : Operands), s₀.upset u = s → s.takes p .release o →
    ((∀ i, ¬ s.names p o.handle i) → exec (.release p u) s₀ = .next (s.answered p .stale noResults)) ∧
    ∀ i m, s.names p o.handle i → (s.slot p i).holding.message? = some m → s.readsClear (s.freeReads m) →
      ∃ t, exec (.release p u) s₀ = .next t ∧
        s.completes t p .ok
          #v[field 0 5 ((s.messageCells m).filter (fun c => !s.marked c)).length,
            field 0 5 ((s.messageCells m).filter s.marked).length, 0, 0] ∧
        s.freed t m ∧ s.slotEmptied t p i ∧ t.heldCells p + (s.slot p i).holding.cellCount = s.heldCells p ∧
        (∀ q, t.queue q = s.lowered (s.slot p i).holding.source? q) ∧ t.timeouts = s.timeoutsWithout p i ∧
        t = { s with
          lastGranted := t.lastGranted
          interfaces := t.interfaces
          freeList := t.freeList
          retired := t.retired
          parityErrors := t.parityErrors
          messages := t.messages
          holdings := t.holdings
          queues := t.queues
          timeouts := t.timeouts }

/-- R90 and R91: RENEW. -/
def Obligations.RenewResetsTheDeadline : Prop :=
  ∀ (s : State) (p : Port) (o : Operands), s.takes p .renew o →
    ((∀ i, ¬ s.names p o.handle i) → exec (.renew p) s = .next (s.answered p .stale noResults)) ∧
    ∀ i, s.names p o.handle i →
      (∀ m c, (s.slot p i).holding = .fresh m c →
        exec (.renew p) s = .next (s.answered p .badOperand noResults)) ∧
      ∀ m c f, (s.slot p i).holding = .taken m c f →
        (f.source = none → exec (.renew p) s = .next (s.answered p .orphaned noResults)) ∧
        (f.source ≠ none → f.holdTime = 0 → exec (.renew p) s = .next (s.answered p .ok noResults)) ∧
        (f.source ≠ none → f.holdTime ≠ 0 → ∃ t d, exec (.renew p) s = .next t ∧
          d = s.tick + BitVec.ofNat 32 f.holdTime.toNat ∧
          s.completes t p .ok #v[BitVec.ofNat 32 f.holdTime.toNat, d, 0, 0] ∧
          t.slot p i = { gen := (s.slot p i).gen, holding := .taken m c { f with deadline := some d } } ∧
          s.otherSlotsKept t p i ∧
          InsertedAtPlace s.tick
            { port := p, slot := i, gen := (s.slot p i).gen, deadline := d, due := false }
            (s.timeoutsWithout p i) t.timeouts ∧
          t = { s with
            lastGranted := t.lastGranted
            interfaces := t.interfaces
            holdings := t.holdings
            timeouts := t.timeouts })

/-- R92: the checks of RETURN and its orphan case. The parity of the entries that the free writes is log
11's, the entries it reads log 12's. -/
def Obligations.ReturnChecksAndOrphanCase : Prop :=
  ∀ (s₀ s : State) (u : Upset) (p : Port) (o : Operands), s₀.upset u = s → s.takes p .giveBack o →
    ((∀ i, ¬ s.names p o.handle i) → exec (.giveBack p u) s₀ = .next (s.answered p .stale noResults)) ∧
    ∀ i, s.names p o.handle i →
      (∀ m c, (s.slot p i).holding = .fresh m c →
        exec (.giveBack p u) s₀ = .next (s.answered p .badOperand noResults)) ∧
      ∀ m c f, (s.slot p i).holding = .taken m c f → f.source = none → s.readsClear (s.freeReads m) →
        ∃ t, exec (.giveBack p u) s₀ = .next t ∧ s.completes t p .orphaned noResults ∧
          s.freed t m ∧ s.slotEmptied t p i ∧ t.heldCells p + c = s.heldCells p ∧
          t = { s with
            lastGranted := t.lastGranted
            interfaces := t.interfaces
            freeList := t.freeList
            retired := t.retired
            parityErrors := t.parityErrors
            messages := t.messages
            holdings := t.holdings }

/-- R93 and R110 to R114: a RETURN of a TAKEN, non-orphaned holding, with each disposition. The parity of
the entries it writes is log 11's, the entries it reads log 12's. -/
def Obligations.ReturnGivesTheMessageBack : Prop :=
  ∀ (s₀ s : State) (u : Upset) (p : Port) (o : Operands) (i : SlotNo) (m : CellNo) (c : Nat) (f : TakenFields)
    (q : QueueNo) (r : Message) (d : Disposition), s₀.upset u = s → s.takes p .giveBack o →
    s.names p o.handle i → (s.slot p i).holding = .taken m c f → f.source = some q → s.message m = some r →
    (s.queue q).settings.spill ≠ some q → s.tableDisposition q r d → s.readsClear (s.returnReads q m) →
    ∃ t, exec (.giveBack p u) s₀ = .next t ∧
      s.completes t p .ok
        (match d with
          | .requeued => #v[1, BitVec.ofNat 32 q.val, 0, 0]
          | .spilled x => #v[2, BitVec.ofNat 32 x.val, 0, 0]
          | .discarded => #v[3, 0, 0, 0]) ∧
      s.returned t q m r d ∧ s.slotEmptied t p i ∧ t.heldCells p + c = s.heldCells p ∧
      t.timeouts = s.timeoutsWithout p i ∧ (∀ x, t.noticeUnit x = s.afterReturn q d x) ∧
      t = { s with
        lastGranted := t.lastGranted
        interfaces := t.interfaces
        queues := t.queues
        freeList := t.freeList
        retired := t.retired
        parityErrors := t.parityErrors
        messages := t.messages
        holdings := t.holdings
        timeouts := t.timeouts
        notices := t.notices }

/-- R94 to R97 with R172's layout: QUERY reads one grant's values and changes nothing else. -/
def Obligations.QueryReportsAndChangesNothing : Prop :=
  ∀ (s : State) (p : Port) (o : Operands), s.takes p .query o →
    (64 < o.queueField ∨ 1 < o.page → exec (.query p) s = .next (s.answered p .badOperand noResults)) ∧
    (∀ q : QueueNo, q.val = o.queueField → o.page = 0 →
      exec (.query p) s = .next (s.answered p .ok
        #v[field 0 2 (match (s.queue q).state with | .undefined => 0 | .active => 1 | .purging => 2 | .deleting => 3),
          field 0 12 (s.queue q).list.length ||| field 16 12 (s.queue q).outstanding,
          field 0 12 (s.queue q).settings.limit,
          match (s.queue q).claimant with | none => 0 | some r => field 0 2 r.val ||| flagBit 2 true])) ∧
    (∀ q : QueueNo, q.val = o.queueField → o.page = 1 →
      exec (.query p) s = .next (s.answered p .ok
        #v[(s.queue q).delivered, (s.queue q).redelivered, (s.queue q).discarded, 0])) ∧
    (∀ t : TickPeriod, o.queueField = 64 → o.page = 0 → s.tickPeriod = some t →
      exec (.query p) s = .next (s.answered p .ok
        #v[2, field 0 13 s.freeList.length ||| field 16 13 s.retired.length, field 0 13 s.formatRetired,
          field 0 11 (match t with | .us1 => 1 | .us10 => 10 | .us100 => 100 | .us1000 => 1000)])) ∧
    (o.queueField = 64 → o.page = 1 → (s.port p).state = .attached →
      exec (.query p) s = .next (s.answered p .ok
        #v[1, field 0 13 (s.port p).quota,
          field 0 10 (s.heldCells p) |||
            field 16 6 ((List.finRange 32).filter (fun i => (s.slot p i).holding.isEmpty)).length,
          0]))

/-- R98 and R99: CLAIM and UNCLAIM. -/
def Obligations.ClaimAndUnclaimSetAndDropTheClaim : Prop :=
  (∀ (s : State) (p : Port) (o : Operands), s.takes p .claim o →
    (64 ≤ o.queueField → exec (.claim p) s = .next (s.answered p .badOperand noResults)) ∧
    ∀ q : QueueNo, q.val = o.queueField →
      ((s.queue q).state = .undefined → exec (.claim p) s = .next (s.answered p .noQueue noResults)) ∧
      ((s.queue q).state = .purging ∨ (s.queue q).state = .deleting →
        exec (.claim p) s = .next (s.answered p .queueBusy noResults)) ∧
      ((s.queue q).state = .active → (s.queue q).settings.takeSet.getLsbD p.val = false →
        exec (.claim p) s = .next (s.answered p .noRight noResults)) ∧
      ((s.queue q).state = .active → (s.queue q).settings.takeSet.getLsbD p.val = true →
        (∀ r, (s.queue q).claimant = some r → r ≠ p →
          exec (.claim p) s = .next (s.answered p .claimed noResults)) ∧
        ((s.queue q).claimant = none ∨ (s.queue q).claimant = some p →
          exec (.claim p) s = .next
            ((s.answered p .ok noResults).setQueue q { s.queue q with claimant := some p })))) ∧
  ∀ (s : State) (p : Port) (o : Operands), s.takes p .unclaim o →
    (64 ≤ o.queueField → exec (.unclaim p) s = .next (s.answered p .badOperand noResults)) ∧
    ∀ q : QueueNo, q.val = o.queueField →
      ((s.queue q).state = .undefined → exec (.unclaim p) s = .next (s.answered p .noQueue noResults)) ∧
      ((s.queue q).state ≠ .undefined → (s.queue q).claimant ≠ some p →
        exec (.unclaim p) s = .next (s.answered p .badOperand noResults)) ∧
      ((s.queue q).state ≠ .undefined → (s.queue q).claimant = some p →
        exec (.unclaim p) s = .next
          ((s.answered p .ok noResults).setQueue q { s.queue q with claimant := none }))

/-! ## Queue administration -/

/-- R150 and R151: DEFINE QUEUE. -/
def Obligations.DefineQueueMakesAnActiveQueue : Prop :=
  ∀ (s : State) (p : Port) (o : Operands), s.takes p .defineQueue o →
    ((s.port p).admin = false → exec (.defineQueue p) s = .next (s.answered p .noRight noResults)) ∧
    ((s.port p).admin = true →
      (64 ≤ o.queueField → exec (.defineQueue p) s = .next (s.answered p .badOperand noResults)) ∧
      ∀ q : QueueNo, q.val = o.queueField →
        ((s.queue q).state ≠ .undefined →
          exec (.defineQueue p) s = .next (s.answered p .badOperand noResults)) ∧
        ((s.queue q).state = .undefined →
          ¬(1 ≤ o.settings.limit ∧ o.settings.limit ≤ 4095 ∧ o.settings.spill ≠ some q ∧
            1 ≤ o.settings.highMark ∧ o.settings.highMark ≤ 4095 ∧ o.settings.lowMark < o.settings.highMark) →
          exec (.defineQueue p) s = .next (s.answered p .badOperand noResults)) ∧
        ((s.queue q).state = .undefined → 1 ≤ o.settings.limit → o.settings.limit ≤ 4095 →
          o.settings.spill ≠ some q → 1 ≤ o.settings.highMark → o.settings.highMark ≤ 4095 →
          o.settings.lowMark < o.settings.highMark →
          exec (.defineQueue p) s = .next
            { s.answered p .ok noResults with
              queues := s.queues.set q
                { s.queue q with
                  state := .active, settings := o.settings, lowArmed := false
                  delivered := 0, redelivered := 0, discarded := 0 } }))

/-- R152, R153 and R154: MODIFY QUEUE. -/
def Obligations.ModifyQueueRewritesTheSettings : Prop :=
  ∀ (s : State) (p : Port) (o : Operands), s.takes p .modifyQueue o →
    ((s.port p).admin = false → exec (.modifyQueue p) s = .next (s.answered p .noRight noResults)) ∧
    ((s.port p).admin = true →
      (64 ≤ o.queueField → exec (.modifyQueue p) s = .next (s.answered p .badOperand noResults)) ∧
      ∀ q : QueueNo, q.val = o.queueField →
        ((s.queue q).state = .undefined → exec (.modifyQueue p) s = .next (s.answered p .noQueue noResults)) ∧
        ((s.queue q).state = .purging ∨ (s.queue q).state = .deleting →
          exec (.modifyQueue p) s = .next (s.answered p .queueBusy noResults)) ∧
        ((s.queue q).state = .active → o.settings.accepted q = false ∨ o.settings.limit < (s.queue q).occupancy →
          exec (.modifyQueue p) s = .next (s.answered p .badOperand noResults)) ∧
        ((s.queue q).state = .active → o.settings.accepted q = true → (s.queue q).occupancy ≤ o.settings.limit →
          ∃ t, exec (.modifyQueue p) s = .next t ∧ s.completes t p .ok noResults ∧
            t.queue q = { s.queue q with settings := o.settings } ∧ (∀ x, x ≠ q → t.queue x = s.queue x) ∧
            (∀ r, (t.noticeUnit r).active = (s.noticeUnit r).active ∧
              ∀ n, n ∈ (t.noticeUnit r).pendingSet ↔ n ∈ (s.noticeUnit r).pendingSet ∧
                ¬((s.queue q).settings.target = some r ∧
                  (o.settings.target ≠ some r ∨ o.settings.level ≠ (s.queue q).settings.level ∨
                    o.settings.conditions = 0) ∧
                  n.kind = .queue ∧ n.source = BitVec.ofNat 6 q.val)) ∧
            t = { s with
              lastGranted := t.lastGranted
              interfaces := t.interfaces
              queues := t.queues
              notices := t.notices }))

/-- R155: PURGE QUEUE. -/
def Obligations.PurgeQueueAppendsTheWalk : Prop :=
  ∀ (s : State) (p : Port) (o : Operands), s.takes p .purgeQueue o →
    ((s.port p).admin = false → exec (.purgeQueue p) s = .next (s.answered p .noRight noResults)) ∧
    ((s.port p).admin = true →
      (64 ≤ o.queueField → exec (.purgeQueue p) s = .next (s.answered p .badOperand noResults)) ∧
      ∀ q : QueueNo, q.val = o.queueField →
        ((s.queue q).state = .undefined → exec (.purgeQueue p) s = .next (s.answered p .noQueue noResults)) ∧
        ((s.queue q).state = .purging ∨ (s.queue q).state = .deleting →
          exec (.purgeQueue p) s = .next (s.answered p .queueBusy noResults)) ∧
        ((s.queue q).state = .active →
          exec (.purgeQueue p) s = .next
            { s.answered p .ok #v[field 0 12 (s.queue q).list.length, 0, 0, 0] with
              queues := s.queues.set q { s.queue q with state := .purging }
              jobs := s.jobs ++ [.purge q] }))

/-- R156: DELETE QUEUE. -/
def Obligations.DeleteQueueOrphansItsHoldings : Prop :=
  ∀ (s : State) (p : Port) (o : Operands), s.takes p .deleteQueue o →
    ((s.port p).admin = false → exec (.deleteQueue p) s = .next (s.answered p .noRight noResults)) ∧
    ((s.port p).admin = true →
      (64 ≤ o.queueField → exec (.deleteQueue p) s = .next (s.answered p .badOperand noResults)) ∧
      ∀ q : QueueNo, q.val = o.queueField →
        ((s.queue q).state = .undefined → exec (.deleteQueue p) s = .next (s.answered p .noQueue noResults)) ∧
        ((s.queue q).state = .purging ∨ (s.queue q).state = .deleting →
          exec (.deleteQueue p) s = .next (s.answered p .queueBusy noResults)) ∧
        ((s.queue q).state = .active → ∃ t, exec (.deleteQueue p) s = .next t ∧
          s.completes t p .ok #v[field 0 8 (s.takenFrom q), field 0 12 (s.queue q).list.length, 0, 0] ∧
          t.queue q = { s.queue q with state := .deleting, outstanding := 0, claimant := none } ∧
          (∀ x, x ≠ q → t.queue x = s.queue x) ∧
          (∀ r i, t.slot r i =
            match (s.slot r i).holding with
            | .empty => s.slot r i
            | .fresh _ _ => s.slot r i
            | .taken m c f =>
              if f.source = some q
              then { gen := (s.slot r i).gen, holding := .taken m c { f with source := none, deadline := none } }
              else s.slot r i) ∧
          t.timeouts = s.timeouts.filter
            (fun e => !decide ((s.slot e.port e.slot).holding.source? = some q)) ∧
          t.jobs = s.jobs ++ [.delete q] ∧
          (∀ r, (t.noticeUnit r).active = (s.noticeUnit r).active ∧
            ∀ n, n ∈ (t.noticeUnit r).pendingSet ↔ n ∈ (s.noticeUnit r).pendingSet ∧
              ¬((s.queue q).settings.target = some r ∧ n.kind = .queue ∧ n.source = BitVec.ofNat 6 q.val)) ∧
          (∀ r, t.heldCells r = s.heldCells r) ∧
          t = { s with
            lastGranted := t.lastGranted
            interfaces := t.interfaces
            queues := t.queues
            holdings := t.holdings
            timeouts := t.timeouts
            jobs := t.jobs
            notices := t.notices }))

/-- R159: SET PORT. -/
def Obligations.SetPortWritesQuotaAndAdminFlag : Prop :=
  ∀ (s : State) (p : Port) (o : Operands), s.takes p .setPort o →
    ((s.port p).admin = false → exec (.setPort p) s = .next (s.answered p .noRight noResults)) ∧
    ((s.port p).admin = true →
      (o.target? = none → exec (.setPort p) s = .next (s.answered p .badOperand noResults)) ∧
      ∀ r, o.target? = some r →
        (4096 < o.quota ∨ o.quota < s.heldCells r ∨
            (o.adminFlag = false ∧
              ∀ x, x ≠ r → (s.port x).admin = true → (s.port x).settle ≠ .attached) →
          exec (.setPort p) s = .next (s.answered p .badOperand noResults)) ∧
        (o.quota ≤ 4096 → s.heldCells r ≤ o.quota →
          (o.adminFlag = true ∨
            ∃ x, x ≠ r ∧ (s.port x).admin = true ∧ (s.port x).settle = .attached) →
          exec (.setPort p) s = .next
            { s.answered p .ok noResults with
              ports := s.ports.set r { s.port r with quota := o.quota, admin := o.adminFlag } }))

/-! ## Port administration -/

/-- R138: the checks of FENCE PORT, and the harmless repeat of check 4. -/
def Obligations.FencePortChecksInOrder : Prop :=
  ∀ (s : State) (p : Port) (o : Operands), s.takes p .fencePort o →
    ((s.port p).admin = false → exec (.fencePort p) s = .next (s.answered p .noRight noResults)) ∧
    ((s.port p).admin = true →
      (o.target? = none → exec (.fencePort p) s = .next (s.answered p .badOperand noResults)) ∧
      (o.target? = some p → exec (.fencePort p) s = .next (s.answered p .badOperand noResults)) ∧
      ∀ r, o.target? = some r → r ≠ p →
        ((s.port r).state = .fenced → exec (.fencePort p) s = .next (s.answered p .ok noResults)) ∧
        ((s.port r).state = .reclaiming ∨ (s.port r).state = .down →
          exec (.fencePort p) s = .next (s.answered p .targetBusy noResults)))

/-- R139 and R73: a FENCE PORT that passes its checks. -/
def Obligations.FencePortSetsTheTargetAside : Prop :=
  ∀ (s : State) (p : Port) (o : Operands) (r : Port), s.takes p .fencePort o → (s.port p).admin = true →
    o.target? = some r → r ≠ p → (s.port r).state = .attached →
    ∃ t, exec (.fencePort p) s = .next t ∧ t.lastGranted = .port p ∧
      t.interface p = (s.interface p).afterCompletion .ok noResults ∧
      ((s.interface r).slot.status = .idle → t.interface r = s.interface r) ∧
      (∀ c, (s.interface r).slot.status = .waiting c →
        t.interface r = (s.interface r).afterCompletion .fenced noResults) ∧
      (∀ x, x ≠ p → x ≠ r → t.interface x = s.interface x) ∧
      (∀ q, t.queue q = if (s.queue q).claimant = some r then { s.queue q with claimant := none } else s.queue q) ∧
      t.port r =
        { s.port r with state := if s.holdsAny r then .reclaiming else .fenced, settle := .fenced } ∧
      (∀ x, x ≠ r → t.port x = s.port x) ∧
      t.jobs = (if s.holdsAny r then s.jobs ++ [.port r .fenced] else s.jobs) ∧
      t.noticeUnit r = { pendingSet := [], active := [] } ∧
      (∀ x, x ≠ r → t.noticeUnit x = s.afterPortEvent r x 2#3) ∧
      t = { s with
        lastGranted := t.lastGranted
        interfaces := t.interfaces
        queues := t.queues
        ports := t.ports
        jobs := t.jobs
        notices := t.notices }

/-- R140: UNFENCE PORT. -/
def Obligations.UnfencePortRestoresAFencedPort : Prop :=
  ∀ (s : State) (p : Port) (o : Operands), s.takes p .unfencePort o →
    ((s.port p).admin = false → exec (.unfencePort p) s = .next (s.answered p .noRight noResults)) ∧
    ((s.port p).admin = true →
      (o.target? = none → exec (.unfencePort p) s = .next (s.answered p .badOperand noResults)) ∧
      ∀ r, o.target? = some r →
        ((s.port r).state = .reclaiming ∨ (s.port r).state = .down →
          exec (.unfencePort p) s = .next (s.answered p .targetBusy noResults)) ∧
        ((s.port r).state = .attached → exec (.unfencePort p) s = .next (s.answered p .ok noResults)) ∧
        ((s.port r).state = .fenced →
          exec (.unfencePort p) s = .next
            { s.answered p .ok noResults with
              ports := s.ports.set r { s.port r with state := .attached, settle := .attached } }))

/-- R137 and R72: RESET PORT, issued by an ATTACHED port without a PORT job. -/
def Obligations.ResetPortReclaimsTheIssuersHoldings : Prop :=
  ∀ (s : State) (p : Port) (o : Operands), s.takes p .resetPort o → (s.port p).state = .attached →
    s.hasPortJob p = false →
    ∃ t, exec (.resetPort p) s = .next t ∧ t.lastGranted = .port p ∧
      t.interface p =
        { s.interface p with
          slot := { status := .idle, discard := false }
          operands := Vector.replicate 8 0
          outcome := 0
          results := Vector.replicate 4 0
          overrun := false, window := false, data := false, noack := false
          select := none, noticeEnable := false, systemLevel := 0 } ∧
      (∀ x, x ≠ p → t.interface x = s.interface x) ∧
      (∀ q, t.queue q = if (s.queue q).claimant = some p then { s.queue q with claimant := none } else s.queue q) ∧
      t.port p =
        { s.port p with state := if s.holdsAny p then .reclaiming else .attached, settle := .attached } ∧
      (∀ x, x ≠ p → t.port x = s.port x) ∧
      t.jobs = (if s.holdsAny p then s.jobs ++ [.port p .attached] else s.jobs) ∧
      t.noticeUnit p = { pendingSet := [], active := [] } ∧
      (∀ x, x ≠ p → t.noticeUnit x = s.afterPortEvent p x 1#3) ∧
      t = { s with
        lastGranted := t.lastGranted
        interfaces := t.interfaces
        queues := t.queues
        ports := t.ports
        jobs := t.jobs
        notices := t.notices }

/-! ## The register area -/

/-- R169, R170 and R172: an access of the row REGISTER_WRITE, a write and a read. The bytes of an operand
word whose strobes are active change; a write to a read-only register or to an offset the map does not
name is discarded. A read drives the register's word, laid out as in spec/11, and changes nothing else;
at a write-only register and at an offset the map does not name it drives zero. That the reads stand in
this row is the model's choice (log 22). -/
def Obligations.RegisterAccessIsServedByTheMap : Prop :=
  ∀ (s : State) (p : Port) (offset : WindowOffset) (data : Word),
    (∀ strobes : Strobes, (Instr.registerWrite p offset data (.write strobes)).wellFormed = true →
      (0x20 ≤ offset.toNat → exec (.registerWrite p offset data (.write strobes)) s = .next s) ∧
      ∀ k : Fin 8, offset.toNat = 4 * k.val → ∃ t, exec (.registerWrite p offset data (.write strobes)) s = .next t ∧
        t.interface p = { s.interface p with operands := (t.interface p).operands } ∧
        (∀ j : Fin 4, (t.interface p).operands[k].extractLsb' (8 * j.val) 8 =
          if strobes.getLsbD j.val then data.extractLsb' (8 * j.val) 8
          else (s.interface p).operands[k].extractLsb' (8 * j.val) 8) ∧
        (∀ l : Fin 8, l ≠ k → (t.interface p).operands[l] = (s.interface p).operands[l]) ∧
        (∀ r, r ≠ p → t.interface r = s.interface r) ∧ t = { s with interfaces := t.interfaces }) ∧
    ((Instr.registerWrite p offset data .read).wellFormed = true → ∃ w : Word,
      exec (.registerWrite p offset data .read) s = .next (s.setInterface p { s.interface p with readData := w }) ∧
      (∀ k : Fin 8, offset.toNat = 4 * k.val → w = (s.interface p).operands[k]) ∧
      (offset.toNat = 0x024 → w = (s.interface p).outcome) ∧
      (∀ k : Fin 4, offset.toNat = 0x028 + 4 * k.val → w = (s.interface p).results[k]) ∧
      (offset.toNat = 0x044 →
        ((s.interface p).select = none → w = 0) ∧
        ∀ h, (s.interface p).select = some h →
          w.extractLsb' 0 8 = h ∧ w.getLsbD 8 = true ∧ w.extractLsb' 9 23 = 0) ∧
      (offset.toNat = 0x048 →
        w.getLsbD 0 = (s.interface p).noticeEnable ∧ w.extractLsb' 1 3 = 0 ∧
        w.extractLsb' 4 3 = (s.interface p).systemLevel ∧ w.extractLsb' 7 25 = 0) ∧
      (offset.toNat = 0x060 →
        w.getLsbD 0 = s.capture.valid ∧ (w.getLsbD 1 = true ↔ s.capture.kind = .link) ∧ w.extractLsb' 2 2 = 0 ∧
        (w.extractLsb' 4 12).toNat = s.capture.location.val ∧ (w.extractLsb' 16 3).toNat = s.capture.word.val ∧
        w.getLsbD 19 = false ∧
        (w.extractLsb' 20 3).toNat =
          (match s.capture.agent with | .port r => r.val | .engine => 4 | .reclaimUnit => 5) ∧
        w.getLsbD 23 = false ∧ (w.getLsbD 24 = true ↔ s.capture.access = .write) ∧ w.extractLsb' 25 7 = 0) ∧
      (offset.toNat = 0x064 →
        w.extractLsb' 0 16 = s.correctable ∧ w.extractLsb' 16 16 = s.uncorrectable) ∧
      (offset.toNat = 0x068 → w.extractLsb' 0 8 = s.overflow ∧ w.extractLsb' 8 24 = 0) ∧
      (offset.toNat = 0x020 ∨ (0x038 ≤ offset.toNat ∧ offset.toNat < 0x040) ∨ offset.toNat = 0x04C ∨
        (0x054 ≤ offset.toNat ∧ offset.toNat < 0x060) ∨ 0x070 ≤ offset.toNat → w = 0))

/-- R63, R64 and R170: a command-word write; and, with R171 and R172, the tables of spec/11 that it and the
grants use: which command each code names, which word each outcome writes, and where each operand field
stands in the copy of the operand words. The order of the three notice conditions in their field is the
model's choice (log 23). -/
def Obligations.CommandWordIsAcceptedOrAnsweredLocally : Prop :=
  (∀ (code : BitVec 8) (c : CommandCode), CommandCode.ofCode code = some c ↔ code =
    match c with
    | .allocate => 0x01 | .put => 0x02 | .take => 0x03 | .release => 0x04 | .renew => 0x05 | .giveBack => 0x06
    | .query => 0x07 | .claim => 0x08 | .unclaim => 0x09 | .format => 0x10 | .defineQueue => 0x11
    | .modifyQueue => 0x12 | .purgeQueue => 0x13 | .deleteQueue => 0x14 | .setPort => 0x15 | .fencePort => 0x16
    | .unfencePort => 0x17 | .resetPort => 0x18) ∧
  (∀ x : OutcomeCode, x.word =
    match x with
    | .ok => 0x01 | .notReady => 0x02 | .halted => 0x03 | .fenced => 0x04 | .noRight => 0x05 | .noQueue => 0x06
    | .queueBusy => 0x07 | .queueFull => 0x08 | .queueEmpty => 0x09 | .claimed => 0x0A | .noCells => 0x0B
    | .quota => 0x0C | .noSlot => 0x0D | .stale => 0x0E | .badOperand => 0x0F | .targetBusy => 0x10
    | .orphaned => 0x11) ∧
  (∀ o : Operands,
    o.cellCount = (o[0].extractLsb' 0 5).toNat ∧ o.handle = o[0].extractLsb' 0 8 ∧
    o.queueField = (o[1].extractLsb' 0 7).toNat ∧ (∀ q, o.queue? = some q ↔ q.val = o.queueField) ∧
    (o.listEnd = .head ↔ o[1].getLsbD 8 = true) ∧ o.length = (o[2].extractLsb' 0 11).toNat ∧
    o.tag = o[3].extractLsb' 0 16 ∧ o.page = (o[2].extractLsb' 0 2).toNat ∧ o.adminSet = o[0].extractLsb' 0 4 ∧
    o.period = (o[1].extractLsb' 0 11).toNat ∧ (∀ r, o.target? = some r ↔ r.val = (o[0].extractLsb' 0 3).toNat) ∧
    o.quota = (o[1].extractLsb' 0 13).toNat ∧ o.adminFlag = o[2].getLsbD 0 ∧
    o.settings.limit = (o[2].extractLsb' 0 12).toNat ∧ o.settings.putSet = o[3].extractLsb' 0 4 ∧
    o.settings.takeSet = o[3].extractLsb' 4 4 ∧
    (o.settings.conditions &&& Reasons.arrival ≠ 0 ↔ o[3].getLsbD 8 = true) ∧
    (o.settings.conditions &&& Reasons.high ≠ 0 ↔ o[3].getLsbD 9 = true) ∧
    (o.settings.conditions &&& Reasons.low ≠ 0 ↔ o[3].getLsbD 10 = true) ∧
    o.settings.level = o[3].extractLsb' 12 3 ∧
    (∀ r : Port, o.settings.target = some r ↔ o[3].getLsbD 18 = true ∧ r.val = (o[3].extractLsb' 16 2).toNat) ∧
    (∀ q : QueueNo, o.settings.spill = some q ↔ o[3].getLsbD 31 = true ∧ q.val = (o[3].extractLsb' 24 6).toNat) ∧
    o.settings.retryLimit = (o[4].extractLsb' 0 4).toNat ∧ o.settings.holdTime = o[4].extractLsb' 16 16 ∧
    o.settings.highMark = (o[5].extractLsb' 0 12).toNat ∧ o.settings.lowMark = (o[5].extractLsb' 16 12).toNat) ∧
  ∀ (s : State) (p : Port) (data : Word) (strobes : Strobes),
    (strobes = 0 → exec (.commandWordWrite p data strobes) s = .next s) ∧
    (strobes ≠ 0 → ∀ code : BitVec 8, code = (if strobes.getLsbD 0 then data.extractLsb' 0 8 else 0) →
      (((∃ r, (s.interface p).slot.status = .waiting r) ∨ (∃ r, (s.interface p).slot.status = .running r)) →
        exec (.commandWordWrite p data strobes) s = .next
          (if (s.port p).state = .down then s
            else (s.setInterface p { s.interface p with overrun := true }))) ∧
      ((s.interface p).slot.status = .idle →
        ((s.port p).state = .fenced → exec (.commandWordWrite p data strobes) s = .next
          (s.setInterface p { s.interface p with outcome := 0x04, results := Vector.replicate 4 0 })) ∧
        ((s.port p).state = .reclaiming ∨ (s.port p).state = .down →
          exec (.commandWordWrite p data strobes) s = .next
            (s.setInterface p { s.interface p with outcome := 0x02, results := Vector.replicate 4 0 })) ∧
        ((s.port p).state = .attached → CommandCode.ofCode code = none →
          exec (.commandWordWrite p data strobes) s = .next
            (s.setInterface p { s.interface p with outcome := 0x0F, results := Vector.replicate 4 0 })) ∧
        ∀ c, (s.port p).state = .attached → CommandCode.ofCode code = some c →
          exec (.commandWordWrite p data strobes) s = .next
            (s.setInterface p { s.interface p with
                  slot :=
                    { status := .waiting { code := c, operands := (s.interface p).operands }
                      discard := (s.interface p).slot.discard }
                  outcome := 0 })))

/-- R68 with the layout of spec/11: a status read drives the word and clears the four sticky flags. -/
def Obligations.StatusReadReportsAndClearsTheFlags : Prop :=
  ∀ (s : State) (p : Port), ∃ w : Word, ∃ t, exec (.statusRead p) s = .next t ∧
    (w.getLsbD 0 = true ↔ (s.interface p).slot.status ≠ .idle) ∧
    w.getLsbD 1 = (s.interface p).overrun ∧ w.getLsbD 2 = (s.interface p).window ∧
    w.getLsbD 3 = (s.interface p).data ∧ w.getLsbD 4 = (s.interface p).noack ∧
    w.extractLsb' 5 3 = 0 ∧
    w.extractLsb' 8 2 =
      (match (s.port p).state with | .down => 0 | .attached => 1 | .reclaiming => 2 | .fenced => 3) ∧
    w.extractLsb' 10 2 = 0 ∧
    w.extractLsb' 12 2 =
      (match s.device with | .unformatted => 0 | .formatting => 1 | .running => 2 | .halted => 3) ∧
    w.extractLsb' 14 2 = 0 ∧ w.extractLsb' 16 2 = BitVec.ofNat 2 p.val ∧ w.extractLsb' 18 14 = 0 ∧
    t.interface p =
      { s.interface p with overrun := false, window := false, data := false, noack := false, readData := w } ∧
    (∀ r, r ≠ p → t.interface r = s.interface r) ∧ t = { s with interfaces := t.interfaces }

/-- R32, R38, R127 and R170: the window select register and the port control register. -/
def Obligations.SelectAndControlWritesAreLocal : Prop :=
  ∀ (s : State) (p : Port) (data : Word) (strobes : Strobes),
    ((s.port p).state = .down ∨ strobes = 0 → exec (.windowSelectWrite p data strobes) s = .next s) ∧
    ((s.port p).state ≠ .down → strobes ≠ 0 →
      exec (.windowSelectWrite p data strobes) s = .next
        (s.setInterface p { s.interface p with
              select :=
                if strobes.getLsbD 1 = true ∧ data.getLsbD 8 = true
                then some (if strobes.getLsbD 0 then data.extractLsb' 0 8 else 0) else none })) ∧
    ((s.port p).state = .down ∨ strobes.getLsbD 0 = false →
      exec (.portControlWrite p data strobes) s = .next s) ∧
    ((s.port p).state ≠ .down → strobes.getLsbD 0 = true →
      exec (.portControlWrite p data strobes) s = .next
        (s.setInterface p { s.interface p with noticeEnable := data.getLsbD 0, systemLevel := data.extractLsb' 4 3 }))

/-! ## Notices -/

/-- R121: what a notice unit makes of a raise. -/
def Obligations.RaiseIsDroppedEnteredOrMerged : Prop :=
  ∀ (s : State) (p : Port) (n : Notice), (s.noticeUnit p).PendingLaw →
    ((s.port p).state ≠ .attached → s.raise p n = s) ∧
    ((s.port p).state = .attached →
      ((s.raise p n).noticeUnit p).active = (s.noticeUnit p).active ∧
      ((∀ x ∈ (s.noticeUnit p).pendingSet, ¬(x.kind = n.kind ∧ x.source = n.source)) →
        ∀ x, x ∈ ((s.raise p n).noticeUnit p).pendingSet ↔ x ∈ (s.noticeUnit p).pendingSet ∨ x = n) ∧
      (∀ y ∈ (s.noticeUnit p).pendingSet, y.kind = n.kind → y.source = n.source →
        ∀ x, x ∈ ((s.raise p n).noticeUnit p).pendingSet ↔
          (x ∈ (s.noticeUnit p).pendingSet ∧ x ≠ y) ∨
            x = { kind := n.kind, source := n.source, level := n.level, reasons := y.reasons ||| n.reasons }) ∧
      (∀ r, r ≠ p → (s.raise p n).noticeUnit r = s.noticeUnit r) ∧
      s.raise p n = { s with notices := (s.raise p n).notices })

/-- R124 with R122 and the layout of spec/11: a notice read; and R128, R132 and R167: when the notice line
is asserted, HALTED included. -/
def Obligations.NoticeReadPushesTheFirstEligibleRecord : Prop :=
  (∀ (s : State) (p : Port),
    (s.device = .halted → s.noticeLine p = true) ∧
    (s.noticeLine p = true ↔ s.device = .halted ∨
      ((s.interface p).noticeEnable = true ∧
        ∃ n ∈ (s.noticeUnit p).pendingSet, (s.noticeUnit p).mayPush n))) ∧
  ∀ (s : State) (p : Port), (s.noticeUnit p).PendingLaw → (s.noticeUnit p).StackLaw →
    ∃ w : Word, ∃ t, exec (.noticeRead p) s = .next t ∧
      t.interface p = { s.interface p with readData := w } ∧ (∀ r, r ≠ p → t.interface r = s.interface r) ∧
      (∀ r, r ≠ p → t.noticeUnit r = s.noticeUnit r) ∧
      t = { s with interfaces := t.interfaces, notices := t.notices } ∧
      (w.extractLsb' 24 4).toNat = (t.noticeUnit p).active.length ∧
      (∀ n, (s.noticeUnit p).firstPending n → (s.noticeUnit p).mayPush n →
        (∀ x, x ∈ (t.noticeUnit p).pendingSet ↔ x ∈ (s.noticeUnit p).pendingSet ∧ x ≠ n) ∧
        (t.noticeUnit p).active = n :: (s.noticeUnit p).active ∧ w.getLsbD 31 = true ∧
        (w.extractLsb' 0 2).toNat =
          (match n.kind with | .queue => 0 | .holdLost => 1 | .capture => 2 | .portEvent => 3) ∧
        w.extractLsb' 8 6 = n.source ∧ w.extractLsb' 16 3 = n.level ∧ w.extractLsb' 20 3 = n.reasons) ∧
      ((∀ n, (s.noticeUnit p).firstPending n → ¬(s.noticeUnit p).mayPush n) →
        t.noticeUnit p = s.noticeUnit p ∧ w.getLsbD 31 = false ∧ w.extractLsb' 0 24 = 0)

/-- R125 and R170: a notice acknowledge, whatever its data. -/
def Obligations.AcknowledgePopsTheActiveStack : Prop :=
  ∀ (s : State) (p : Port) (data : Word) (strobes : Strobes),
    (strobes = 0 → exec (.noticeAcknowledge p data strobes) s = .next s) ∧
    (strobes ≠ 0 →
      (∀ top rest, (s.noticeUnit p).active = top :: rest →
        exec (.noticeAcknowledge p data strobes) s = .next
          { s with notices := s.notices.set p { pendingSet := (s.noticeUnit p).pendingSet, active := rest } }) ∧
      ((s.noticeUnit p).active = [] → (s.port p).state ≠ .down →
        exec (.noticeAcknowledge p data strobes) s = .next
          (s.setInterface p { s.interface p with noack := true })) ∧
      ((s.noticeUnit p).active = [] → (s.port p).state = .down →
        exec (.noticeAcknowledge p data strobes) s = .next s))

/-! ## The capture register and the data window -/

/-- R164: the read of the fourth capture word. -/
def Obligations.FourthCaptureWordReadReleasesTheRecord : Prop :=
  ∀ (s : State) (p : Port), ∃ w : Word, exec (.captureWord4Read p) s = .next
      { s with
        capture := { s.capture with valid := false }
        overflow := 0
        interfaces := s.interfaces.set p { s.interface p with readData := w } } ∧
    w.getLsbD 0 = s.capture.valid ∧ (w.getLsbD 1 = true ↔ s.capture.kind = .link) ∧ w.extractLsb' 2 30 = 0

/-- R35, R38, R39 and R166: the window accesses that reach no cell, one whose mapping reads a message
record of mismatched parity among them. -/
def Obligations.WindowRefusalsReachNoCell : Prop :=
  ∀ (s₀ s : State) (u : Upset) (p : Port) (offset : DataOffset) (data : Word) (strobes : Strobes) (flips : Flips),
    s₀.upset u = s →
    ((s.port p).state = .down →
      exec (.windowRead p offset flips u) s₀ = .next
        (s.setInterface p { s.interface p with readData := 0 }) ∧
      exec (.windowWrite p offset data strobes flips u) s₀ = .next s) ∧
    ((s.port p).state ≠ .down →
      s.device = .halted ∨ (s.port p).state = .reclaiming ∨ (s.port p).state = .fenced ∨
        (s.interface p).select = none ∨
        (∃ h, (s.interface p).select = some h ∧
          ((∀ i, ¬ s.names p h i) ∨
            ∃ i, s.names p h i ∧ 64 * (s.slot p i).holding.cellCount ≤ offset.toNat)) →
      exec (.windowRead p offset flips u) s₀ = .next
        (s.setInterface p { s.interface p with window := true, readData := 0 }) ∧
      exec (.windowWrite p offset data strobes flips u) s₀ = .next
        (s.setInterface p { s.interface p with window := true })) ∧
    ∀ h i m, s.device ≠ .halted → (s.port p).state = .attached → (s.interface p).select = some h →
      s.names p h i → (s.slot p i).holding.message? = some m →
      offset.toNat < 64 * (s.slot p i).holding.cellCount → .record m ∈ s.parityErrors →
      exec (.windowRead p offset flips u) s₀ = .next
        ((s.haltedBy (.record m) (.port p)).setInterface p
          { s.interface p with window := true, readData := 0 }) ∧
      exec (.windowWrite p offset data strobes flips u) s₀ = .next
        ((s.haltedBy (.record m) (.port p)).setInterface p { s.interface p with window := true })

/-- R36 and R3: a window read that reaches a CLEAN or CORRECTED cell word. `flips` says which of its
stored bits have changed since it was written (log 10). -/
def Obligations.WindowReadReturnsTheAddressedHalf : Prop :=
  ∀ (s₀ s : State) (u : Upset) (p : Port) (offset : DataOffset) (flips : Flips) (m c : CellNo) (w : WordNo)
    (d : BitVec 64), s₀.upset u = s → s.reachesCell p offset m c w →
    (classify (s.cellWord c w ^^^ flips) = .clean d ∨ classify (s.cellWord c w ^^^ flips) = .corrected d) →
    ∃ t, exec (.windowRead p offset flips u) s₀ = .next t ∧
      t.interface p =
        { s.interface p with
          readData := if offset.toNat % 8 < 4 then d.extractLsb' 0 32 else d.extractLsb' 32 32 } ∧
      (∀ r, r ≠ p → t.interface r = s.interface r) ∧
      (classify (s.cellWord c w ^^^ flips) = .clean d →
        t.cellWord c w = s.cellWord c w ^^^ flips ∧ t.correctable = s.correctable) ∧
      (classify (s.cellWord c w ^^^ flips) = .corrected d →
        t.cellWord c w = encodeWord d ∧
        t.correctable.toNat = min (s.correctable.toNat + 1) 65535) ∧
      s.otherBytesKept t c w ∧
      t = { s with store := t.store, interfaces := t.interfaces, correctable := t.correctable }

/-- R37 and R4: a window write that reaches a CLEAN or CORRECTED cell word. -/
def Obligations.WindowWriteMergesTheStrobedBytes : Prop :=
  ∀ (s₀ s : State) (u : Upset) (p : Port) (offset : DataOffset) (data : Word) (strobes : Strobes) (flips : Flips)
    (m c : CellNo) (w : WordNo) (d : BitVec 64), s₀.upset u = s → s.reachesCell p offset m c w →
    (classify (s.cellWord c w ^^^ flips) = .clean d ∨ classify (s.cellWord c w ^^^ flips) = .corrected d) →
    ∃ t merged, exec (.windowWrite p offset data strobes flips u) s₀ = .next t ∧
      t.cellWord c w = encodeWord merged ∧
      (∀ k : Fin 8, merged.extractLsb' (8 * k.val) 8 =
        if (4 ≤ k.val ↔ 4 ≤ offset.toNat % 8) ∧ strobes.getLsbD (k.val % 4) = true
        then data.extractLsb' (8 * (k.val % 4)) 8 else d.extractLsb' (8 * k.val) 8) ∧
      (classify (s.cellWord c w ^^^ flips) = .clean d → t.correctable = s.correctable) ∧
      (classify (s.cellWord c w ^^^ flips) = .corrected d →
        t.correctable.toNat = min (s.correctable.toNat + 1) 65535) ∧
      s.otherBytesKept t c w ∧ t = { s with store := t.store, correctable := t.correctable }

/-- R161, R162 and R163: a window access that reaches an UNCORRECTABLE cell word, a read and a
write. The message's record is written, and its parity with it (R161, log 11). -/
def Obligations.UncorrectableAccessMarksTheCell : Prop :=
  ∀ (s₀ s : State) (u : Upset) (p : Port) (offset : DataOffset) (data : Word) (strobes : Strobes) (flips : Flips)
    (m c : CellNo) (w : WordNo) (d : BitVec 64) (r : Message), s₀.upset u = s → s.reachesCell p offset m c w →
    s.message m = some r → classify (s.cellWord c w ^^^ flips) = .uncorrectable d →
    ∀ (i : Instr) (a : Access),
      (i = .windowRead p offset flips u ∧ a = .read ∨ i = .windowWrite p offset data strobes flips u ∧ a = .write) →
      ∃ t, exec i s₀ = .next t ∧
        t.cellWord c w = s.cellWord c w ^^^ flips ∧ s.otherBytesKept t c w ∧
        (∀ x, t.marked x = true ↔ s.marked x = true ∨ x = c) ∧
        t.message m = some { r with damaged := true } ∧ (∀ k, k ≠ m → t.message k = s.message k) ∧
        t.interface p =
          { s.interface p with
            data := true
            readData :=
              if a = .read then (if offset.toNat % 8 < 4 then d.extractLsb' 0 32 else d.extractLsb' 32 32)
              else (s.interface p).readData } ∧
        (∀ x, x ≠ p → t.interface x = s.interface x) ∧
        t.uncorrectable.toNat = min (s.uncorrectable.toNat + 1) 65535 ∧
        (s.capture.valid = true → t.capture = s.capture ∧ t.notices = s.notices ∧
          t.overflow.toNat = min (s.overflow.toNat + 1) 255) ∧
        (s.capture.valid = false → t.overflow = s.overflow ∧
          t.capture = { valid := true, kind := .data, location := c, word := w, agent := .port p, access := a } ∧
          ∀ x, t.noticeUnit x =
            if s.attachedAdmin x
            then (s.noticeUnit x).taking
              { kind := .capture, source := 0, level := (s.interface x).systemLevel, reasons := 1#3 }
            else s.noticeUnit x) ∧
        t.parityErrors = s.parityWithout [.record m] ∧
        t = { s with
          store := t.store
          faultMarks := t.faultMarks
          messages := t.messages
          parityErrors := t.parityErrors
          interfaces := t.interfaces
          uncorrectable := t.uncorrectable
          overflow := t.overflow
          capture := t.capture
          notices := t.notices }

/-! ## The hold timer -/

/-- R101, R102 and R105: an advance of the tick counter, and the marking on its own. That the marking
is an event of its own too is the model's reading (log 15). -/
def Obligations.TickAdvanceMarksTheDueEntries : Prop :=
  ∀ s : State,
    (s.device ≠ .running → exec .tickAdvance s = .next s ∧ exec .deadlineDue s = .next s) ∧
    (s.device = .running →
      exec .tickAdvance s = .next
        { s with
          tick := s.tick + 1
          timeouts := s.timeouts.map
            (fun e => { e with due := e.due || decide (e.deadline = s.tick + 1) }) } ∧
      exec .deadlineDue s = .next
        { s with timeouts := s.timeouts.map (fun e => { e with due := e.due || decide (e.deadline = s.tick) }) })

/-- R108 and R109: an expiry of the earliest due entry. The parity of the entries it writes is log 11's,
the entries it reads log 12's. -/
def Obligations.ExpiryReturnsTheEarliestDueHolding : Prop :=
  ∀ (s₀ s : State) (u : Upset) (e : TimeoutEntry) (before after : List TimeoutEntry) (m : CellNo) (c : Nat)
    (f : TakenFields) (q : QueueNo) (r : Message) (d : Disposition), s₀.upset u = s →
    s.granted = some .holdTimer → s.timeouts = before ++ e :: after → (∀ x ∈ before, x.due = false) →
    e.due = true → (s.slot e.port e.slot).holding = .taken m c f → f.source = some q → s.message m = some r →
    (s.queue q).settings.spill ≠ some q → s.tableDisposition q r d → s.readsClear (s.returnReads q m) →
    ∃ t, exec (.expiry u) s₀ = .next t ∧ t.lastGranted = .holdTimer ∧
      s.returned t q m r d ∧ s.slotEmptied t e.port e.slot ∧ t.heldCells e.port + c = s.heldCells e.port ∧
      t.timeouts = s.timeoutsWithout e.port e.slot ∧
      (∀ x, x ≠ e.port → t.noticeUnit x = s.afterReturn q d x) ∧
      t.noticeUnit e.port =
        (if (s.port e.port).state = .attached
          then (s.afterReturn q d e.port).taking
            { kind := .holdLost, source := BitVec.ofNat 6 e.slot.val
              level := (s.interface e.port).systemLevel, reasons := 1#3 }
          else s.afterReturn q d e.port) ∧
      t = { s with
        lastGranted := t.lastGranted
        queues := t.queues
        freeList := t.freeList
        retired := t.retired
        parityErrors := t.parityErrors
        messages := t.messages
        holdings := t.holdings
        timeouts := t.timeouts
        notices := t.notices }

/-! ## The reclaim unit -/

/-- R143 and R144: a step of a PORT job. The parity of the entries it writes is log 11's, the entries it
reads log 12's. -/
def Obligations.PortJobStepReturnsOneHolding : Prop :=
  ∀ (s₀ s : State) (u : Upset) (p : Port) (endState : SettleState) (js : List Job), s₀.upset u = s →
    s.granted = some .reclaimUnit → s.jobs = .port p endState :: js →
    ((∀ i, (s.slot p i).holding = .empty) → ∃ t, exec (.portJobStep u) s₀ = .next t ∧
      t.lastGranted = .reclaimUnit ∧ s.portJobEnded t p endState js s.noticeUnit ∧
      t = { s with
        lastGranted := t.lastGranted, jobs := t.jobs, ports := t.ports, notices := t.notices }) ∧
    (∀ i m, s.stepChooses p i → (s.slot p i).holding.message? = some m → (s.slot p i).holding.source? = none →
      s.readsClear (s.freeReads m) → ∃ t, exec (.portJobStep u) s₀ = .next t ∧ t.lastGranted = .reclaimUnit ∧
        s.freed t m ∧ s.slotEmptied t p i ∧ t.heldCells p + (s.slot p i).holding.cellCount = s.heldCells p ∧
        (s.lastHolding p i → s.portJobEnded t p endState js s.noticeUnit) ∧
        (¬ s.lastHolding p i → s.portJobGoesOn t s.noticeUnit) ∧
        t = { s with
          lastGranted := t.lastGranted
          freeList := t.freeList
          retired := t.retired
          parityErrors := t.parityErrors
          messages := t.messages
          holdings := t.holdings
          jobs := t.jobs
          ports := t.ports
          notices := t.notices }) ∧
    ∀ i m c f q r d, s.stepChooses p i → (s.slot p i).holding = .taken m c f → f.source = some q →
      s.message m = some r → (s.queue q).settings.spill ≠ some q → s.tableDisposition q r d →
      s.readsClear (s.returnReads q m) → ∃ t, exec (.portJobStep u) s₀ = .next t ∧ t.lastGranted = .reclaimUnit ∧
        s.returned t q m r d ∧ s.slotEmptied t p i ∧ t.heldCells p + c = s.heldCells p ∧
        t.timeouts = s.timeoutsWithout p i ∧
        (s.lastHolding p i → s.portJobEnded t p endState js (s.afterReturn q d)) ∧
        (¬ s.lastHolding p i → s.portJobGoesOn t (s.afterReturn q d)) ∧
        t = { s with
          lastGranted := t.lastGranted
          queues := t.queues
          freeList := t.freeList
          retired := t.retired
          parityErrors := t.parityErrors
          messages := t.messages
          holdings := t.holdings
          timeouts := t.timeouts
          jobs := t.jobs
          ports := t.ports
          notices := t.notices }

/-- R145: a step of a PURGE or DELETE job, in a part where a queue is PURGING or DELETING while such a
job names it. The parity of the entries it writes is log 11's, the entries it reads log 12's. -/
def Obligations.QueueWalkStepFreesTheHeadMessage : Prop :=
  ∀ (s₀ s : State) (u : Upset) (q : QueueNo) (js : List Job) (delete : Bool), s₀.upset u = s →
    s.granted = some .reclaimUnit → s.jobs = (if delete then .delete q else .purge q) :: js →
    (s.queue q).state = (if delete then .deleting else .purging) →
    ((s.queue q).list = [] → exec (.queueWalkStep u) s₀ = .next
      { s with
        lastGranted := .reclaimUnit
        jobs := js
        queues := s.queues.set q (if delete then Queue.cleared else { s.queue q with state := .active }) }) ∧
    ∀ m rest, (s.queue q).list = m :: rest → s.readsClear (s.freeReads m) →
      ∃ t, exec (.queueWalkStep u) s₀ = .next t ∧ t.lastGranted = .reclaimUnit ∧ s.freed t m ∧
        t.jobs = (if rest = [] then js else s.jobs) ∧
        t.queue q =
          (if delete = true ∧ rest = [] then Queue.cleared
            else
              { s.queue q with
                list := rest
                discarded := (s.queue q).discarded + 1
                lowArmed := s.armedTo q rest.length
                state := if rest = [] then .active else (s.queue q).state }) ∧
        (∀ x, x ≠ q → t.queue x = s.queue x) ∧
        (∀ r, t.noticeUnit r = s.afterCrossings q (s.crossingsTo q rest.length) r) ∧
        t = { s with
          lastGranted := t.lastGranted
          freeList := t.freeList
          retired := t.retired
          parityErrors := t.parityErrors
          messages := t.messages
          jobs := t.jobs
          queues := t.queues
          notices := t.notices }
end

