-- ==== Sys2Proof/Laws/Codes.lean ====
section
/-! SUPPORT. Laws/Codes.lean: the class of a cell word whose data bits are zero, for every lawful check
code. -/

namespace Sys2Proof.Machine

theorem sumColumns_zero (n : Nat) : sumColumns 0 n = 0 := by
  induction n with
  | zero => rfl
  | succ n ih => unfold sumColumns; rw [ih]; simp

/-- Zero data has a zero check byte, whatever the code's columns (R2). -/
@[simp] theorem checkByte_zero : checkByte 0 = 0 := sumColumns_zero 64

@[simp] theorem encodeWord_zero : encodeWord 0 = 0 := by
  unfold encodeWord
  rw [checkByte_zero]
  rfl

theorem syndrome_zero_data (v : CellWord) (h : CellWord.payload v = 0) : syndrome v = CellWord.check v := by
  unfold syndrome
  rw [h, checkByte_zero]
  simp

theorem classify_zero : classify 0 = .clean 0 := by
  have h : syndrome 0 = 0 := syndrome_zero_data 0 rfl
  unfold classify
  dsimp only
  rw [if_pos h]
  rfl

/-- One check bit turned over is corrected. -/
theorem classify_one_check_bit : classify (1#72 <<< 64) = .corrected 0 := by
  have h : syndrome (1#72 <<< 64) = 1 := syndrome_zero_data _ (by decide)
  unfold classify
  dsimp only
  rw [h, if_neg (by decide), if_pos (by decide)]
  exact congrArg ReadClass.corrected (by decide)

/-- Two check bits turned over are no single bit's column, in every lawful code (R2). -/
theorem classify_two_check_bits : classify (3#72 <<< 64) = .uncorrectable 0 := by
  have h : syndrome (3#72 <<< 64) = 3 := syndrome_zero_data _ (by decide)
  have hn : (3 : Byte) ∉ Config.checkCode.columns := by
    have hl := Config.checkCode.lawful.2
    rw [List.pairwise_append] at hl
    have h2 := hl.2.1
    unfold Config.checkColumns at h2
    have h3 := ((List.pairwise_cons.1 h2).1 2 (by decide)).2
    rw [List.mem_append, not_or] at h3
    exact h3.1
  unfold classify
  dsimp only
  rw [h, if_neg (by decide), if_neg (by decide), List.findIdx?_eq_none_iff.2 (fun x hx => by
    rw [beq_eq_false_iff_ne]
    rintro rfl
    exact hn hx)]
  exact congrArg ReadClass.uncorrectable (by decide)

end Sys2Proof.Machine
end

