-- ==== Sys2Proof/Laws/State.lean ====
section
/-! SUPPORT. Laws/State.lean: one lemma for each field an update leaves as it was (true by rfl), and what
each table reads after one of its entries is written. -/

namespace Sys2Proof.Machine.State

variable (s : State)

/-! ## setQueue -/

@[simp] theorem setQueue_pending (q : QueueNo) (d : Queue) : (s.setQueue q d).pending = s.pending := (rfl)
@[simp] theorem setQueue_device (q : QueueNo) (d : Queue) : (s.setQueue q d).device = s.device := (rfl)
@[simp] theorem setQueue_deviceLine (q : QueueNo) (d : Queue) : (s.setQueue q d).deviceLine = s.deviceLine := (rfl)
@[simp] theorem setQueue_walk (q : QueueNo) (d : Queue) : (s.setQueue q d).walk = s.walk := (rfl)
@[simp] theorem setQueue_tickPeriod (q : QueueNo) (d : Queue) : (s.setQueue q d).tickPeriod = s.tickPeriod := (rfl)
@[simp] theorem setQueue_store (q : QueueNo) (d : Queue) : (s.setQueue q d).store = s.store := (rfl)
@[simp] theorem setQueue_faultMarks (q : QueueNo) (d : Queue) : (s.setQueue q d).faultMarks = s.faultMarks := (rfl)
@[simp] theorem setQueue_retired (q : QueueNo) (d : Queue) : (s.setQueue q d).retired = s.retired := (rfl)
@[simp] theorem setQueue_formatRetired (q : QueueNo) (d : Queue) : (s.setQueue q d).formatRetired = s.formatRetired := (rfl)
@[simp] theorem setQueue_freeList (q : QueueNo) (d : Queue) : (s.setQueue q d).freeList = s.freeList := (rfl)
@[simp] theorem setQueue_messages (q : QueueNo) (d : Queue) : (s.setQueue q d).messages = s.messages := (rfl)
@[simp] theorem setQueue_parityErrors (q : QueueNo) (d : Queue) : (s.setQueue q d).parityErrors = s.parityErrors := (rfl)
@[simp] theorem setQueue_ports (q : QueueNo) (d : Queue) : (s.setQueue q d).ports = s.ports := (rfl)
@[simp] theorem setQueue_holdings (q : QueueNo) (d : Queue) : (s.setQueue q d).holdings = s.holdings := (rfl)
@[simp] theorem setQueue_lastGranted (q : QueueNo) (d : Queue) : (s.setQueue q d).lastGranted = s.lastGranted := (rfl)
@[simp] theorem setQueue_tick (q : QueueNo) (d : Queue) : (s.setQueue q d).tick = s.tick := (rfl)
@[simp] theorem setQueue_timeouts (q : QueueNo) (d : Queue) : (s.setQueue q d).timeouts = s.timeouts := (rfl)
@[simp] theorem setQueue_jobs (q : QueueNo) (d : Queue) : (s.setQueue q d).jobs = s.jobs := (rfl)
@[simp] theorem setQueue_capture (q : QueueNo) (d : Queue) : (s.setQueue q d).capture = s.capture := (rfl)
@[simp] theorem setQueue_correctable (q : QueueNo) (d : Queue) : (s.setQueue q d).correctable = s.correctable := (rfl)
@[simp] theorem setQueue_uncorrectable (q : QueueNo) (d : Queue) : (s.setQueue q d).uncorrectable = s.uncorrectable := (rfl)
@[simp] theorem setQueue_overflow (q : QueueNo) (d : Queue) : (s.setQueue q d).overflow = s.overflow := (rfl)
@[simp] theorem setQueue_interfaces (q : QueueNo) (d : Queue) : (s.setQueue q d).interfaces = s.interfaces := (rfl)
@[simp] theorem setQueue_notices (q : QueueNo) (d : Queue) : (s.setQueue q d).notices = s.notices := (rfl)
@[simp] theorem setQueue_port (q : QueueNo) (d : Queue) (r : Port) : (s.setQueue q d).port r = s.port r := (rfl)
@[simp] theorem setQueue_interface (q : QueueNo) (d : Queue) (r : Port) : (s.setQueue q d).interface r = s.interface r := (rfl)
@[simp] theorem setQueue_noticeUnit (q : QueueNo) (d : Queue) (r : Port) : (s.setQueue q d).noticeUnit r = s.noticeUnit r := (rfl)
@[simp] theorem setQueue_slot (q : QueueNo) (d : Queue) (r : Port) (j : SlotNo) : (s.setQueue q d).slot r j = s.slot r j := (rfl)
@[simp] theorem setQueue_message (q : QueueNo) (d : Queue) (k : CellNo) : (s.setQueue q d).message k = s.message k := (rfl)

/-! ## setPortEntry -/

@[simp] theorem setPortEntry_pending (p : Port) (e : PortEntry) : (s.setPortEntry p e).pending = s.pending := (rfl)
@[simp] theorem setPortEntry_device (p : Port) (e : PortEntry) : (s.setPortEntry p e).device = s.device := (rfl)
@[simp] theorem setPortEntry_deviceLine (p : Port) (e : PortEntry) : (s.setPortEntry p e).deviceLine = s.deviceLine := (rfl)
@[simp] theorem setPortEntry_walk (p : Port) (e : PortEntry) : (s.setPortEntry p e).walk = s.walk := (rfl)
@[simp] theorem setPortEntry_tickPeriod (p : Port) (e : PortEntry) : (s.setPortEntry p e).tickPeriod = s.tickPeriod := (rfl)
@[simp] theorem setPortEntry_store (p : Port) (e : PortEntry) : (s.setPortEntry p e).store = s.store := (rfl)
@[simp] theorem setPortEntry_faultMarks (p : Port) (e : PortEntry) : (s.setPortEntry p e).faultMarks = s.faultMarks := (rfl)
@[simp] theorem setPortEntry_retired (p : Port) (e : PortEntry) : (s.setPortEntry p e).retired = s.retired := (rfl)
@[simp] theorem setPortEntry_formatRetired (p : Port) (e : PortEntry) : (s.setPortEntry p e).formatRetired = s.formatRetired := (rfl)
@[simp] theorem setPortEntry_freeList (p : Port) (e : PortEntry) : (s.setPortEntry p e).freeList = s.freeList := (rfl)
@[simp] theorem setPortEntry_messages (p : Port) (e : PortEntry) : (s.setPortEntry p e).messages = s.messages := (rfl)
@[simp] theorem setPortEntry_parityErrors (p : Port) (e : PortEntry) : (s.setPortEntry p e).parityErrors = s.parityErrors := (rfl)
@[simp] theorem setPortEntry_queues (p : Port) (e : PortEntry) : (s.setPortEntry p e).queues = s.queues := (rfl)
@[simp] theorem setPortEntry_holdings (p : Port) (e : PortEntry) : (s.setPortEntry p e).holdings = s.holdings := (rfl)
@[simp] theorem setPortEntry_lastGranted (p : Port) (e : PortEntry) : (s.setPortEntry p e).lastGranted = s.lastGranted := (rfl)
@[simp] theorem setPortEntry_tick (p : Port) (e : PortEntry) : (s.setPortEntry p e).tick = s.tick := (rfl)
@[simp] theorem setPortEntry_timeouts (p : Port) (e : PortEntry) : (s.setPortEntry p e).timeouts = s.timeouts := (rfl)
@[simp] theorem setPortEntry_jobs (p : Port) (e : PortEntry) : (s.setPortEntry p e).jobs = s.jobs := (rfl)
@[simp] theorem setPortEntry_capture (p : Port) (e : PortEntry) : (s.setPortEntry p e).capture = s.capture := (rfl)
@[simp] theorem setPortEntry_correctable (p : Port) (e : PortEntry) : (s.setPortEntry p e).correctable = s.correctable := (rfl)
@[simp] theorem setPortEntry_uncorrectable (p : Port) (e : PortEntry) : (s.setPortEntry p e).uncorrectable = s.uncorrectable := (rfl)
@[simp] theorem setPortEntry_overflow (p : Port) (e : PortEntry) : (s.setPortEntry p e).overflow = s.overflow := (rfl)
@[simp] theorem setPortEntry_interfaces (p : Port) (e : PortEntry) : (s.setPortEntry p e).interfaces = s.interfaces := (rfl)
@[simp] theorem setPortEntry_notices (p : Port) (e : PortEntry) : (s.setPortEntry p e).notices = s.notices := (rfl)
@[simp] theorem setPortEntry_queue (p : Port) (e : PortEntry) (r : QueueNo) : (s.setPortEntry p e).queue r = s.queue r := (rfl)
@[simp] theorem setPortEntry_interface (p : Port) (e : PortEntry) (r : Port) : (s.setPortEntry p e).interface r = s.interface r := (rfl)
@[simp] theorem setPortEntry_noticeUnit (p : Port) (e : PortEntry) (r : Port) : (s.setPortEntry p e).noticeUnit r = s.noticeUnit r := (rfl)
@[simp] theorem setPortEntry_slot (p : Port) (e : PortEntry) (r : Port) (j : SlotNo) : (s.setPortEntry p e).slot r j = s.slot r j := (rfl)
@[simp] theorem setPortEntry_message (p : Port) (e : PortEntry) (k : CellNo) : (s.setPortEntry p e).message k = s.message k := (rfl)

/-! ## setInterface -/

@[simp] theorem setInterface_pending (p : Port) (i : PortInterface) : (s.setInterface p i).pending = s.pending := (rfl)
@[simp] theorem setInterface_device (p : Port) (i : PortInterface) : (s.setInterface p i).device = s.device := (rfl)
@[simp] theorem setInterface_deviceLine (p : Port) (i : PortInterface) : (s.setInterface p i).deviceLine = s.deviceLine := (rfl)
@[simp] theorem setInterface_walk (p : Port) (i : PortInterface) : (s.setInterface p i).walk = s.walk := (rfl)
@[simp] theorem setInterface_tickPeriod (p : Port) (i : PortInterface) : (s.setInterface p i).tickPeriod = s.tickPeriod := (rfl)
@[simp] theorem setInterface_store (p : Port) (i : PortInterface) : (s.setInterface p i).store = s.store := (rfl)
@[simp] theorem setInterface_faultMarks (p : Port) (i : PortInterface) : (s.setInterface p i).faultMarks = s.faultMarks := (rfl)
@[simp] theorem setInterface_retired (p : Port) (i : PortInterface) : (s.setInterface p i).retired = s.retired := (rfl)
@[simp] theorem setInterface_formatRetired (p : Port) (i : PortInterface) : (s.setInterface p i).formatRetired = s.formatRetired := (rfl)
@[simp] theorem setInterface_freeList (p : Port) (i : PortInterface) : (s.setInterface p i).freeList = s.freeList := (rfl)
@[simp] theorem setInterface_messages (p : Port) (i : PortInterface) : (s.setInterface p i).messages = s.messages := (rfl)
@[simp] theorem setInterface_parityErrors (p : Port) (i : PortInterface) : (s.setInterface p i).parityErrors = s.parityErrors := (rfl)
@[simp] theorem setInterface_queues (p : Port) (i : PortInterface) : (s.setInterface p i).queues = s.queues := (rfl)
@[simp] theorem setInterface_ports (p : Port) (i : PortInterface) : (s.setInterface p i).ports = s.ports := (rfl)
@[simp] theorem setInterface_holdings (p : Port) (i : PortInterface) : (s.setInterface p i).holdings = s.holdings := (rfl)
@[simp] theorem setInterface_lastGranted (p : Port) (i : PortInterface) : (s.setInterface p i).lastGranted = s.lastGranted := (rfl)
@[simp] theorem setInterface_tick (p : Port) (i : PortInterface) : (s.setInterface p i).tick = s.tick := (rfl)
@[simp] theorem setInterface_timeouts (p : Port) (i : PortInterface) : (s.setInterface p i).timeouts = s.timeouts := (rfl)
@[simp] theorem setInterface_jobs (p : Port) (i : PortInterface) : (s.setInterface p i).jobs = s.jobs := (rfl)
@[simp] theorem setInterface_capture (p : Port) (i : PortInterface) : (s.setInterface p i).capture = s.capture := (rfl)
@[simp] theorem setInterface_correctable (p : Port) (i : PortInterface) : (s.setInterface p i).correctable = s.correctable := (rfl)
@[simp] theorem setInterface_uncorrectable (p : Port) (i : PortInterface) : (s.setInterface p i).uncorrectable = s.uncorrectable := (rfl)
@[simp] theorem setInterface_overflow (p : Port) (i : PortInterface) : (s.setInterface p i).overflow = s.overflow := (rfl)
@[simp] theorem setInterface_notices (p : Port) (i : PortInterface) : (s.setInterface p i).notices = s.notices := (rfl)
@[simp] theorem setInterface_queue (p : Port) (i : PortInterface) (r : QueueNo) : (s.setInterface p i).queue r = s.queue r := (rfl)
@[simp] theorem setInterface_port (p : Port) (i : PortInterface) (r : Port) : (s.setInterface p i).port r = s.port r := (rfl)
@[simp] theorem setInterface_noticeUnit (p : Port) (i : PortInterface) (r : Port) : (s.setInterface p i).noticeUnit r = s.noticeUnit r := (rfl)
@[simp] theorem setInterface_slot (p : Port) (i : PortInterface) (r : Port) (j : SlotNo) : (s.setInterface p i).slot r j = s.slot r j := (rfl)
@[simp] theorem setInterface_message (p : Port) (i : PortInterface) (k : CellNo) : (s.setInterface p i).message k = s.message k := (rfl)

/-! ## setNoticeUnit -/

@[simp] theorem setNoticeUnit_pending (p : Port) (u : NoticeUnit) : (s.setNoticeUnit p u).pending = s.pending := (rfl)
@[simp] theorem setNoticeUnit_device (p : Port) (u : NoticeUnit) : (s.setNoticeUnit p u).device = s.device := (rfl)
@[simp] theorem setNoticeUnit_deviceLine (p : Port) (u : NoticeUnit) : (s.setNoticeUnit p u).deviceLine = s.deviceLine := (rfl)
@[simp] theorem setNoticeUnit_walk (p : Port) (u : NoticeUnit) : (s.setNoticeUnit p u).walk = s.walk := (rfl)
@[simp] theorem setNoticeUnit_tickPeriod (p : Port) (u : NoticeUnit) : (s.setNoticeUnit p u).tickPeriod = s.tickPeriod := (rfl)
@[simp] theorem setNoticeUnit_store (p : Port) (u : NoticeUnit) : (s.setNoticeUnit p u).store = s.store := (rfl)
@[simp] theorem setNoticeUnit_faultMarks (p : Port) (u : NoticeUnit) : (s.setNoticeUnit p u).faultMarks = s.faultMarks := (rfl)
@[simp] theorem setNoticeUnit_retired (p : Port) (u : NoticeUnit) : (s.setNoticeUnit p u).retired = s.retired := (rfl)
@[simp] theorem setNoticeUnit_formatRetired (p : Port) (u : NoticeUnit) : (s.setNoticeUnit p u).formatRetired = s.formatRetired := (rfl)
@[simp] theorem setNoticeUnit_freeList (p : Port) (u : NoticeUnit) : (s.setNoticeUnit p u).freeList = s.freeList := (rfl)
@[simp] theorem setNoticeUnit_messages (p : Port) (u : NoticeUnit) : (s.setNoticeUnit p u).messages = s.messages := (rfl)
@[simp] theorem setNoticeUnit_parityErrors (p : Port) (u : NoticeUnit) : (s.setNoticeUnit p u).parityErrors = s.parityErrors := (rfl)
@[simp] theorem setNoticeUnit_queues (p : Port) (u : NoticeUnit) : (s.setNoticeUnit p u).queues = s.queues := (rfl)
@[simp] theorem setNoticeUnit_ports (p : Port) (u : NoticeUnit) : (s.setNoticeUnit p u).ports = s.ports := (rfl)
@[simp] theorem setNoticeUnit_holdings (p : Port) (u : NoticeUnit) : (s.setNoticeUnit p u).holdings = s.holdings := (rfl)
@[simp] theorem setNoticeUnit_lastGranted (p : Port) (u : NoticeUnit) : (s.setNoticeUnit p u).lastGranted = s.lastGranted := (rfl)
@[simp] theorem setNoticeUnit_tick (p : Port) (u : NoticeUnit) : (s.setNoticeUnit p u).tick = s.tick := (rfl)
@[simp] theorem setNoticeUnit_timeouts (p : Port) (u : NoticeUnit) : (s.setNoticeUnit p u).timeouts = s.timeouts := (rfl)
@[simp] theorem setNoticeUnit_jobs (p : Port) (u : NoticeUnit) : (s.setNoticeUnit p u).jobs = s.jobs := (rfl)
@[simp] theorem setNoticeUnit_capture (p : Port) (u : NoticeUnit) : (s.setNoticeUnit p u).capture = s.capture := (rfl)
@[simp] theorem setNoticeUnit_correctable (p : Port) (u : NoticeUnit) : (s.setNoticeUnit p u).correctable = s.correctable := (rfl)
@[simp] theorem setNoticeUnit_uncorrectable (p : Port) (u : NoticeUnit) : (s.setNoticeUnit p u).uncorrectable = s.uncorrectable := (rfl)
@[simp] theorem setNoticeUnit_overflow (p : Port) (u : NoticeUnit) : (s.setNoticeUnit p u).overflow = s.overflow := (rfl)
@[simp] theorem setNoticeUnit_interfaces (p : Port) (u : NoticeUnit) : (s.setNoticeUnit p u).interfaces = s.interfaces := (rfl)
@[simp] theorem setNoticeUnit_queue (p : Port) (u : NoticeUnit) (r : QueueNo) : (s.setNoticeUnit p u).queue r = s.queue r := (rfl)
@[simp] theorem setNoticeUnit_port (p : Port) (u : NoticeUnit) (r : Port) : (s.setNoticeUnit p u).port r = s.port r := (rfl)
@[simp] theorem setNoticeUnit_interface (p : Port) (u : NoticeUnit) (r : Port) : (s.setNoticeUnit p u).interface r = s.interface r := (rfl)
@[simp] theorem setNoticeUnit_slot (p : Port) (u : NoticeUnit) (r : Port) (j : SlotNo) : (s.setNoticeUnit p u).slot r j = s.slot r j := (rfl)
@[simp] theorem setNoticeUnit_message (p : Port) (u : NoticeUnit) (k : CellNo) : (s.setNoticeUnit p u).message k = s.message k := (rfl)

/-! ## setSlot -/

@[simp] theorem setSlot_pending (p : Port) (i : SlotNo) (x : Slot) : (s.setSlot p i x).pending = s.pending := (rfl)
@[simp] theorem setSlot_device (p : Port) (i : SlotNo) (x : Slot) : (s.setSlot p i x).device = s.device := (rfl)
@[simp] theorem setSlot_deviceLine (p : Port) (i : SlotNo) (x : Slot) : (s.setSlot p i x).deviceLine = s.deviceLine := (rfl)
@[simp] theorem setSlot_walk (p : Port) (i : SlotNo) (x : Slot) : (s.setSlot p i x).walk = s.walk := (rfl)
@[simp] theorem setSlot_tickPeriod (p : Port) (i : SlotNo) (x : Slot) : (s.setSlot p i x).tickPeriod = s.tickPeriod := (rfl)
@[simp] theorem setSlot_store (p : Port) (i : SlotNo) (x : Slot) : (s.setSlot p i x).store = s.store := (rfl)
@[simp] theorem setSlot_faultMarks (p : Port) (i : SlotNo) (x : Slot) : (s.setSlot p i x).faultMarks = s.faultMarks := (rfl)
@[simp] theorem setSlot_retired (p : Port) (i : SlotNo) (x : Slot) : (s.setSlot p i x).retired = s.retired := (rfl)
@[simp] theorem setSlot_formatRetired (p : Port) (i : SlotNo) (x : Slot) : (s.setSlot p i x).formatRetired = s.formatRetired := (rfl)
@[simp] theorem setSlot_freeList (p : Port) (i : SlotNo) (x : Slot) : (s.setSlot p i x).freeList = s.freeList := (rfl)
@[simp] theorem setSlot_messages (p : Port) (i : SlotNo) (x : Slot) : (s.setSlot p i x).messages = s.messages := (rfl)
@[simp] theorem setSlot_parityErrors (p : Port) (i : SlotNo) (x : Slot) : (s.setSlot p i x).parityErrors = s.parityErrors := (rfl)
@[simp] theorem setSlot_queues (p : Port) (i : SlotNo) (x : Slot) : (s.setSlot p i x).queues = s.queues := (rfl)
@[simp] theorem setSlot_ports (p : Port) (i : SlotNo) (x : Slot) : (s.setSlot p i x).ports = s.ports := (rfl)
@[simp] theorem setSlot_lastGranted (p : Port) (i : SlotNo) (x : Slot) : (s.setSlot p i x).lastGranted = s.lastGranted := (rfl)
@[simp] theorem setSlot_tick (p : Port) (i : SlotNo) (x : Slot) : (s.setSlot p i x).tick = s.tick := (rfl)
@[simp] theorem setSlot_timeouts (p : Port) (i : SlotNo) (x : Slot) : (s.setSlot p i x).timeouts = s.timeouts := (rfl)
@[simp] theorem setSlot_jobs (p : Port) (i : SlotNo) (x : Slot) : (s.setSlot p i x).jobs = s.jobs := (rfl)
@[simp] theorem setSlot_capture (p : Port) (i : SlotNo) (x : Slot) : (s.setSlot p i x).capture = s.capture := (rfl)
@[simp] theorem setSlot_correctable (p : Port) (i : SlotNo) (x : Slot) : (s.setSlot p i x).correctable = s.correctable := (rfl)
@[simp] theorem setSlot_uncorrectable (p : Port) (i : SlotNo) (x : Slot) : (s.setSlot p i x).uncorrectable = s.uncorrectable := (rfl)
@[simp] theorem setSlot_overflow (p : Port) (i : SlotNo) (x : Slot) : (s.setSlot p i x).overflow = s.overflow := (rfl)
@[simp] theorem setSlot_interfaces (p : Port) (i : SlotNo) (x : Slot) : (s.setSlot p i x).interfaces = s.interfaces := (rfl)
@[simp] theorem setSlot_notices (p : Port) (i : SlotNo) (x : Slot) : (s.setSlot p i x).notices = s.notices := (rfl)
@[simp] theorem setSlot_queue (p : Port) (i : SlotNo) (x : Slot) (r : QueueNo) : (s.setSlot p i x).queue r = s.queue r := (rfl)
@[simp] theorem setSlot_port (p : Port) (i : SlotNo) (x : Slot) (r : Port) : (s.setSlot p i x).port r = s.port r := (rfl)
@[simp] theorem setSlot_interface (p : Port) (i : SlotNo) (x : Slot) (r : Port) : (s.setSlot p i x).interface r = s.interface r := (rfl)
@[simp] theorem setSlot_noticeUnit (p : Port) (i : SlotNo) (x : Slot) (r : Port) : (s.setSlot p i x).noticeUnit r = s.noticeUnit r := (rfl)
@[simp] theorem setSlot_message (p : Port) (i : SlotNo) (x : Slot) (k : CellNo) : (s.setSlot p i x).message k = s.message k := (rfl)

/-! ## setCellWord -/

@[simp] theorem setCellWord_pending (c : CellNo) (w : WordNo) (v : CellWord) : (s.setCellWord c w v).pending = s.pending := (rfl)
@[simp] theorem setCellWord_device (c : CellNo) (w : WordNo) (v : CellWord) : (s.setCellWord c w v).device = s.device := (rfl)
@[simp] theorem setCellWord_deviceLine (c : CellNo) (w : WordNo) (v : CellWord) : (s.setCellWord c w v).deviceLine = s.deviceLine := (rfl)
@[simp] theorem setCellWord_walk (c : CellNo) (w : WordNo) (v : CellWord) : (s.setCellWord c w v).walk = s.walk := (rfl)
@[simp] theorem setCellWord_tickPeriod (c : CellNo) (w : WordNo) (v : CellWord) : (s.setCellWord c w v).tickPeriod = s.tickPeriod := (rfl)
@[simp] theorem setCellWord_faultMarks (c : CellNo) (w : WordNo) (v : CellWord) : (s.setCellWord c w v).faultMarks = s.faultMarks := (rfl)
@[simp] theorem setCellWord_retired (c : CellNo) (w : WordNo) (v : CellWord) : (s.setCellWord c w v).retired = s.retired := (rfl)
@[simp] theorem setCellWord_formatRetired (c : CellNo) (w : WordNo) (v : CellWord) : (s.setCellWord c w v).formatRetired = s.formatRetired := (rfl)
@[simp] theorem setCellWord_freeList (c : CellNo) (w : WordNo) (v : CellWord) : (s.setCellWord c w v).freeList = s.freeList := (rfl)
@[simp] theorem setCellWord_messages (c : CellNo) (w : WordNo) (v : CellWord) : (s.setCellWord c w v).messages = s.messages := (rfl)
@[simp] theorem setCellWord_parityErrors (c : CellNo) (w : WordNo) (v : CellWord) : (s.setCellWord c w v).parityErrors = s.parityErrors := (rfl)
@[simp] theorem setCellWord_queues (c : CellNo) (w : WordNo) (v : CellWord) : (s.setCellWord c w v).queues = s.queues := (rfl)
@[simp] theorem setCellWord_ports (c : CellNo) (w : WordNo) (v : CellWord) : (s.setCellWord c w v).ports = s.ports := (rfl)
@[simp] theorem setCellWord_holdings (c : CellNo) (w : WordNo) (v : CellWord) : (s.setCellWord c w v).holdings = s.holdings := (rfl)
@[simp] theorem setCellWord_lastGranted (c : CellNo) (w : WordNo) (v : CellWord) : (s.setCellWord c w v).lastGranted = s.lastGranted := (rfl)
@[simp] theorem setCellWord_tick (c : CellNo) (w : WordNo) (v : CellWord) : (s.setCellWord c w v).tick = s.tick := (rfl)
@[simp] theorem setCellWord_timeouts (c : CellNo) (w : WordNo) (v : CellWord) : (s.setCellWord c w v).timeouts = s.timeouts := (rfl)
@[simp] theorem setCellWord_jobs (c : CellNo) (w : WordNo) (v : CellWord) : (s.setCellWord c w v).jobs = s.jobs := (rfl)
@[simp] theorem setCellWord_capture (c : CellNo) (w : WordNo) (v : CellWord) : (s.setCellWord c w v).capture = s.capture := (rfl)
@[simp] theorem setCellWord_correctable (c : CellNo) (w : WordNo) (v : CellWord) : (s.setCellWord c w v).correctable = s.correctable := (rfl)
@[simp] theorem setCellWord_uncorrectable (c : CellNo) (w : WordNo) (v : CellWord) : (s.setCellWord c w v).uncorrectable = s.uncorrectable := (rfl)
@[simp] theorem setCellWord_overflow (c : CellNo) (w : WordNo) (v : CellWord) : (s.setCellWord c w v).overflow = s.overflow := (rfl)
@[simp] theorem setCellWord_interfaces (c : CellNo) (w : WordNo) (v : CellWord) : (s.setCellWord c w v).interfaces = s.interfaces := (rfl)
@[simp] theorem setCellWord_notices (c : CellNo) (w : WordNo) (v : CellWord) : (s.setCellWord c w v).notices = s.notices := (rfl)
@[simp] theorem setCellWord_queue (c : CellNo) (w : WordNo) (v : CellWord) (r : QueueNo) : (s.setCellWord c w v).queue r = s.queue r := (rfl)
@[simp] theorem setCellWord_port (c : CellNo) (w : WordNo) (v : CellWord) (r : Port) : (s.setCellWord c w v).port r = s.port r := (rfl)
@[simp] theorem setCellWord_interface (c : CellNo) (w : WordNo) (v : CellWord) (r : Port) : (s.setCellWord c w v).interface r = s.interface r := (rfl)
@[simp] theorem setCellWord_noticeUnit (c : CellNo) (w : WordNo) (v : CellWord) (r : Port) : (s.setCellWord c w v).noticeUnit r = s.noticeUnit r := (rfl)
@[simp] theorem setCellWord_slot (c : CellNo) (w : WordNo) (v : CellWord) (r : Port) (j : SlotNo) : (s.setCellWord c w v).slot r j = s.slot r j := (rfl)
@[simp] theorem setCellWord_message (c : CellNo) (w : WordNo) (v : CellWord) (k : CellNo) : (s.setCellWord c w v).message k = s.message k := (rfl)

/-! ## markCell -/

@[simp] theorem markCell_pending (c : CellNo) : (s.markCell c).pending = s.pending := (rfl)
@[simp] theorem markCell_device (c : CellNo) : (s.markCell c).device = s.device := (rfl)
@[simp] theorem markCell_deviceLine (c : CellNo) : (s.markCell c).deviceLine = s.deviceLine := (rfl)
@[simp] theorem markCell_walk (c : CellNo) : (s.markCell c).walk = s.walk := (rfl)
@[simp] theorem markCell_tickPeriod (c : CellNo) : (s.markCell c).tickPeriod = s.tickPeriod := (rfl)
@[simp] theorem markCell_store (c : CellNo) : (s.markCell c).store = s.store := (rfl)
@[simp] theorem markCell_retired (c : CellNo) : (s.markCell c).retired = s.retired := (rfl)
@[simp] theorem markCell_formatRetired (c : CellNo) : (s.markCell c).formatRetired = s.formatRetired := (rfl)
@[simp] theorem markCell_freeList (c : CellNo) : (s.markCell c).freeList = s.freeList := (rfl)
@[simp] theorem markCell_messages (c : CellNo) : (s.markCell c).messages = s.messages := (rfl)
@[simp] theorem markCell_parityErrors (c : CellNo) : (s.markCell c).parityErrors = s.parityErrors := (rfl)
@[simp] theorem markCell_queues (c : CellNo) : (s.markCell c).queues = s.queues := (rfl)
@[simp] theorem markCell_ports (c : CellNo) : (s.markCell c).ports = s.ports := (rfl)
@[simp] theorem markCell_holdings (c : CellNo) : (s.markCell c).holdings = s.holdings := (rfl)
@[simp] theorem markCell_lastGranted (c : CellNo) : (s.markCell c).lastGranted = s.lastGranted := (rfl)
@[simp] theorem markCell_tick (c : CellNo) : (s.markCell c).tick = s.tick := (rfl)
@[simp] theorem markCell_timeouts (c : CellNo) : (s.markCell c).timeouts = s.timeouts := (rfl)
@[simp] theorem markCell_jobs (c : CellNo) : (s.markCell c).jobs = s.jobs := (rfl)
@[simp] theorem markCell_capture (c : CellNo) : (s.markCell c).capture = s.capture := (rfl)
@[simp] theorem markCell_correctable (c : CellNo) : (s.markCell c).correctable = s.correctable := (rfl)
@[simp] theorem markCell_uncorrectable (c : CellNo) : (s.markCell c).uncorrectable = s.uncorrectable := (rfl)
@[simp] theorem markCell_overflow (c : CellNo) : (s.markCell c).overflow = s.overflow := (rfl)
@[simp] theorem markCell_interfaces (c : CellNo) : (s.markCell c).interfaces = s.interfaces := (rfl)
@[simp] theorem markCell_notices (c : CellNo) : (s.markCell c).notices = s.notices := (rfl)
@[simp] theorem markCell_queue (c : CellNo) (r : QueueNo) : (s.markCell c).queue r = s.queue r := (rfl)
@[simp] theorem markCell_port (c : CellNo) (r : Port) : (s.markCell c).port r = s.port r := (rfl)
@[simp] theorem markCell_interface (c : CellNo) (r : Port) : (s.markCell c).interface r = s.interface r := (rfl)
@[simp] theorem markCell_noticeUnit (c : CellNo) (r : Port) : (s.markCell c).noticeUnit r = s.noticeUnit r := (rfl)
@[simp] theorem markCell_slot (c : CellNo) (r : Port) (j : SlotNo) : (s.markCell c).slot r j = s.slot r j := (rfl)
@[simp] theorem markCell_message (c : CellNo) (k : CellNo) : (s.markCell c).message k = s.message k := (rfl)

/-! ## retireCell -/

@[simp] theorem retireCell_pending (c : CellNo) : (s.retireCell c).pending = s.pending := (rfl)
@[simp] theorem retireCell_device (c : CellNo) : (s.retireCell c).device = s.device := (rfl)
@[simp] theorem retireCell_deviceLine (c : CellNo) : (s.retireCell c).deviceLine = s.deviceLine := (rfl)
@[simp] theorem retireCell_walk (c : CellNo) : (s.retireCell c).walk = s.walk := (rfl)
@[simp] theorem retireCell_tickPeriod (c : CellNo) : (s.retireCell c).tickPeriod = s.tickPeriod := (rfl)
@[simp] theorem retireCell_store (c : CellNo) : (s.retireCell c).store = s.store := (rfl)
@[simp] theorem retireCell_faultMarks (c : CellNo) : (s.retireCell c).faultMarks = s.faultMarks := (rfl)
@[simp] theorem retireCell_formatRetired (c : CellNo) : (s.retireCell c).formatRetired = s.formatRetired := (rfl)
@[simp] theorem retireCell_freeList (c : CellNo) : (s.retireCell c).freeList = s.freeList := (rfl)
@[simp] theorem retireCell_messages (c : CellNo) : (s.retireCell c).messages = s.messages := (rfl)
@[simp] theorem retireCell_parityErrors (c : CellNo) : (s.retireCell c).parityErrors = s.parityErrors := (rfl)
@[simp] theorem retireCell_queues (c : CellNo) : (s.retireCell c).queues = s.queues := (rfl)
@[simp] theorem retireCell_ports (c : CellNo) : (s.retireCell c).ports = s.ports := (rfl)
@[simp] theorem retireCell_holdings (c : CellNo) : (s.retireCell c).holdings = s.holdings := (rfl)
@[simp] theorem retireCell_lastGranted (c : CellNo) : (s.retireCell c).lastGranted = s.lastGranted := (rfl)
@[simp] theorem retireCell_tick (c : CellNo) : (s.retireCell c).tick = s.tick := (rfl)
@[simp] theorem retireCell_timeouts (c : CellNo) : (s.retireCell c).timeouts = s.timeouts := (rfl)
@[simp] theorem retireCell_jobs (c : CellNo) : (s.retireCell c).jobs = s.jobs := (rfl)
@[simp] theorem retireCell_capture (c : CellNo) : (s.retireCell c).capture = s.capture := (rfl)
@[simp] theorem retireCell_correctable (c : CellNo) : (s.retireCell c).correctable = s.correctable := (rfl)
@[simp] theorem retireCell_uncorrectable (c : CellNo) : (s.retireCell c).uncorrectable = s.uncorrectable := (rfl)
@[simp] theorem retireCell_overflow (c : CellNo) : (s.retireCell c).overflow = s.overflow := (rfl)
@[simp] theorem retireCell_interfaces (c : CellNo) : (s.retireCell c).interfaces = s.interfaces := (rfl)
@[simp] theorem retireCell_notices (c : CellNo) : (s.retireCell c).notices = s.notices := (rfl)
@[simp] theorem retireCell_queue (c : CellNo) (r : QueueNo) : (s.retireCell c).queue r = s.queue r := (rfl)
@[simp] theorem retireCell_port (c : CellNo) (r : Port) : (s.retireCell c).port r = s.port r := (rfl)
@[simp] theorem retireCell_interface (c : CellNo) (r : Port) : (s.retireCell c).interface r = s.interface r := (rfl)
@[simp] theorem retireCell_noticeUnit (c : CellNo) (r : Port) : (s.retireCell c).noticeUnit r = s.noticeUnit r := (rfl)
@[simp] theorem retireCell_slot (c : CellNo) (r : Port) (j : SlotNo) : (s.retireCell c).slot r j = s.slot r j := (rfl)
@[simp] theorem retireCell_message (c : CellNo) (k : CellNo) : (s.retireCell c).message k = s.message k := (rfl)

/-! ## writeEntry -/

@[simp] theorem writeEntry_pending (e : ControlEntry) : (s.writeEntry e).pending = s.pending := (rfl)
@[simp] theorem writeEntry_device (e : ControlEntry) : (s.writeEntry e).device = s.device := (rfl)
@[simp] theorem writeEntry_deviceLine (e : ControlEntry) : (s.writeEntry e).deviceLine = s.deviceLine := (rfl)
@[simp] theorem writeEntry_walk (e : ControlEntry) : (s.writeEntry e).walk = s.walk := (rfl)
@[simp] theorem writeEntry_tickPeriod (e : ControlEntry) : (s.writeEntry e).tickPeriod = s.tickPeriod := (rfl)
@[simp] theorem writeEntry_store (e : ControlEntry) : (s.writeEntry e).store = s.store := (rfl)
@[simp] theorem writeEntry_faultMarks (e : ControlEntry) : (s.writeEntry e).faultMarks = s.faultMarks := (rfl)
@[simp] theorem writeEntry_retired (e : ControlEntry) : (s.writeEntry e).retired = s.retired := (rfl)
@[simp] theorem writeEntry_formatRetired (e : ControlEntry) : (s.writeEntry e).formatRetired = s.formatRetired := (rfl)
@[simp] theorem writeEntry_freeList (e : ControlEntry) : (s.writeEntry e).freeList = s.freeList := (rfl)
@[simp] theorem writeEntry_messages (e : ControlEntry) : (s.writeEntry e).messages = s.messages := (rfl)
@[simp] theorem writeEntry_queues (e : ControlEntry) : (s.writeEntry e).queues = s.queues := (rfl)
@[simp] theorem writeEntry_ports (e : ControlEntry) : (s.writeEntry e).ports = s.ports := (rfl)
@[simp] theorem writeEntry_holdings (e : ControlEntry) : (s.writeEntry e).holdings = s.holdings := (rfl)
@[simp] theorem writeEntry_lastGranted (e : ControlEntry) : (s.writeEntry e).lastGranted = s.lastGranted := (rfl)
@[simp] theorem writeEntry_tick (e : ControlEntry) : (s.writeEntry e).tick = s.tick := (rfl)
@[simp] theorem writeEntry_timeouts (e : ControlEntry) : (s.writeEntry e).timeouts = s.timeouts := (rfl)
@[simp] theorem writeEntry_jobs (e : ControlEntry) : (s.writeEntry e).jobs = s.jobs := (rfl)
@[simp] theorem writeEntry_capture (e : ControlEntry) : (s.writeEntry e).capture = s.capture := (rfl)
@[simp] theorem writeEntry_correctable (e : ControlEntry) : (s.writeEntry e).correctable = s.correctable := (rfl)
@[simp] theorem writeEntry_uncorrectable (e : ControlEntry) : (s.writeEntry e).uncorrectable = s.uncorrectable := (rfl)
@[simp] theorem writeEntry_overflow (e : ControlEntry) : (s.writeEntry e).overflow = s.overflow := (rfl)
@[simp] theorem writeEntry_interfaces (e : ControlEntry) : (s.writeEntry e).interfaces = s.interfaces := (rfl)
@[simp] theorem writeEntry_notices (e : ControlEntry) : (s.writeEntry e).notices = s.notices := (rfl)
@[simp] theorem writeEntry_queue (e : ControlEntry) (r : QueueNo) : (s.writeEntry e).queue r = s.queue r := (rfl)
@[simp] theorem writeEntry_port (e : ControlEntry) (r : Port) : (s.writeEntry e).port r = s.port r := (rfl)
@[simp] theorem writeEntry_interface (e : ControlEntry) (r : Port) : (s.writeEntry e).interface r = s.interface r := (rfl)
@[simp] theorem writeEntry_noticeUnit (e : ControlEntry) (r : Port) : (s.writeEntry e).noticeUnit r = s.noticeUnit r := (rfl)
@[simp] theorem writeEntry_slot (e : ControlEntry) (r : Port) (j : SlotNo) : (s.writeEntry e).slot r j = s.slot r j := (rfl)
@[simp] theorem writeEntry_message (e : ControlEntry) (k : CellNo) : (s.writeEntry e).message k = s.message k := (rfl)

/-! ## appendCell -/

@[simp] theorem appendCell_pending (c : CellNo) : (s.appendCell c).pending = s.pending := (rfl)
@[simp] theorem appendCell_device (c : CellNo) : (s.appendCell c).device = s.device := (rfl)
@[simp] theorem appendCell_deviceLine (c : CellNo) : (s.appendCell c).deviceLine = s.deviceLine := (rfl)
@[simp] theorem appendCell_walk (c : CellNo) : (s.appendCell c).walk = s.walk := (rfl)
@[simp] theorem appendCell_tickPeriod (c : CellNo) : (s.appendCell c).tickPeriod = s.tickPeriod := (rfl)
@[simp] theorem appendCell_store (c : CellNo) : (s.appendCell c).store = s.store := (rfl)
@[simp] theorem appendCell_faultMarks (c : CellNo) : (s.appendCell c).faultMarks = s.faultMarks := (rfl)
@[simp] theorem appendCell_retired (c : CellNo) : (s.appendCell c).retired = s.retired := (rfl)
@[simp] theorem appendCell_formatRetired (c : CellNo) : (s.appendCell c).formatRetired = s.formatRetired := (rfl)
@[simp] theorem appendCell_messages (c : CellNo) : (s.appendCell c).messages = s.messages := (rfl)
@[simp] theorem appendCell_queues (c : CellNo) : (s.appendCell c).queues = s.queues := (rfl)
@[simp] theorem appendCell_ports (c : CellNo) : (s.appendCell c).ports = s.ports := (rfl)
@[simp] theorem appendCell_holdings (c : CellNo) : (s.appendCell c).holdings = s.holdings := (rfl)
@[simp] theorem appendCell_lastGranted (c : CellNo) : (s.appendCell c).lastGranted = s.lastGranted := (rfl)
@[simp] theorem appendCell_tick (c : CellNo) : (s.appendCell c).tick = s.tick := (rfl)
@[simp] theorem appendCell_timeouts (c : CellNo) : (s.appendCell c).timeouts = s.timeouts := (rfl)
@[simp] theorem appendCell_jobs (c : CellNo) : (s.appendCell c).jobs = s.jobs := (rfl)
@[simp] theorem appendCell_capture (c : CellNo) : (s.appendCell c).capture = s.capture := (rfl)
@[simp] theorem appendCell_correctable (c : CellNo) : (s.appendCell c).correctable = s.correctable := (rfl)
@[simp] theorem appendCell_uncorrectable (c : CellNo) : (s.appendCell c).uncorrectable = s.uncorrectable := (rfl)
@[simp] theorem appendCell_overflow (c : CellNo) : (s.appendCell c).overflow = s.overflow := (rfl)
@[simp] theorem appendCell_interfaces (c : CellNo) : (s.appendCell c).interfaces = s.interfaces := (rfl)
@[simp] theorem appendCell_notices (c : CellNo) : (s.appendCell c).notices = s.notices := (rfl)
@[simp] theorem appendCell_queue (c : CellNo) (r : QueueNo) : (s.appendCell c).queue r = s.queue r := (rfl)
@[simp] theorem appendCell_port (c : CellNo) (r : Port) : (s.appendCell c).port r = s.port r := (rfl)
@[simp] theorem appendCell_interface (c : CellNo) (r : Port) : (s.appendCell c).interface r = s.interface r := (rfl)
@[simp] theorem appendCell_noticeUnit (c : CellNo) (r : Port) : (s.appendCell c).noticeUnit r = s.noticeUnit r := (rfl)
@[simp] theorem appendCell_slot (c : CellNo) (r : Port) (j : SlotNo) : (s.appendCell c).slot r j = s.slot r j := (rfl)
@[simp] theorem appendCell_message (c : CellNo) (k : CellNo) : (s.appendCell c).message k = s.message k := (rfl)

/-! ## createMessage -/

@[simp] theorem createMessage_pending (n : Nat) (origin : Port) (m : CellNo) : (s.createMessage n origin m).pending = s.pending := (rfl)
@[simp] theorem createMessage_device (n : Nat) (origin : Port) (m : CellNo) : (s.createMessage n origin m).device = s.device := (rfl)
@[simp] theorem createMessage_deviceLine (n : Nat) (origin : Port) (m : CellNo) : (s.createMessage n origin m).deviceLine = s.deviceLine := (rfl)
@[simp] theorem createMessage_walk (n : Nat) (origin : Port) (m : CellNo) : (s.createMessage n origin m).walk = s.walk := (rfl)
@[simp] theorem createMessage_tickPeriod (n : Nat) (origin : Port) (m : CellNo) : (s.createMessage n origin m).tickPeriod = s.tickPeriod := (rfl)
@[simp] theorem createMessage_store (n : Nat) (origin : Port) (m : CellNo) : (s.createMessage n origin m).store = s.store := (rfl)
@[simp] theorem createMessage_faultMarks (n : Nat) (origin : Port) (m : CellNo) : (s.createMessage n origin m).faultMarks = s.faultMarks := (rfl)
@[simp] theorem createMessage_retired (n : Nat) (origin : Port) (m : CellNo) : (s.createMessage n origin m).retired = s.retired := (rfl)
@[simp] theorem createMessage_formatRetired (n : Nat) (origin : Port) (m : CellNo) : (s.createMessage n origin m).formatRetired = s.formatRetired := (rfl)
@[simp] theorem createMessage_queues (n : Nat) (origin : Port) (m : CellNo) : (s.createMessage n origin m).queues = s.queues := (rfl)
@[simp] theorem createMessage_ports (n : Nat) (origin : Port) (m : CellNo) : (s.createMessage n origin m).ports = s.ports := (rfl)
@[simp] theorem createMessage_holdings (n : Nat) (origin : Port) (m : CellNo) : (s.createMessage n origin m).holdings = s.holdings := (rfl)
@[simp] theorem createMessage_lastGranted (n : Nat) (origin : Port) (m : CellNo) : (s.createMessage n origin m).lastGranted = s.lastGranted := (rfl)
@[simp] theorem createMessage_tick (n : Nat) (origin : Port) (m : CellNo) : (s.createMessage n origin m).tick = s.tick := (rfl)
@[simp] theorem createMessage_timeouts (n : Nat) (origin : Port) (m : CellNo) : (s.createMessage n origin m).timeouts = s.timeouts := (rfl)
@[simp] theorem createMessage_jobs (n : Nat) (origin : Port) (m : CellNo) : (s.createMessage n origin m).jobs = s.jobs := (rfl)
@[simp] theorem createMessage_capture (n : Nat) (origin : Port) (m : CellNo) : (s.createMessage n origin m).capture = s.capture := (rfl)
@[simp] theorem createMessage_correctable (n : Nat) (origin : Port) (m : CellNo) : (s.createMessage n origin m).correctable = s.correctable := (rfl)
@[simp] theorem createMessage_uncorrectable (n : Nat) (origin : Port) (m : CellNo) : (s.createMessage n origin m).uncorrectable = s.uncorrectable := (rfl)
@[simp] theorem createMessage_overflow (n : Nat) (origin : Port) (m : CellNo) : (s.createMessage n origin m).overflow = s.overflow := (rfl)
@[simp] theorem createMessage_interfaces (n : Nat) (origin : Port) (m : CellNo) : (s.createMessage n origin m).interfaces = s.interfaces := (rfl)
@[simp] theorem createMessage_notices (n : Nat) (origin : Port) (m : CellNo) : (s.createMessage n origin m).notices = s.notices := (rfl)
@[simp] theorem createMessage_queue (n : Nat) (origin : Port) (m : CellNo) (r : QueueNo) : (s.createMessage n origin m).queue r = s.queue r := (rfl)
@[simp] theorem createMessage_port (n : Nat) (origin : Port) (m : CellNo) (r : Port) : (s.createMessage n origin m).port r = s.port r := (rfl)
@[simp] theorem createMessage_interface (n : Nat) (origin : Port) (m : CellNo) (r : Port) : (s.createMessage n origin m).interface r = s.interface r := (rfl)
@[simp] theorem createMessage_noticeUnit (n : Nat) (origin : Port) (m : CellNo) (r : Port) : (s.createMessage n origin m).noticeUnit r = s.noticeUnit r := (rfl)
@[simp] theorem createMessage_slot (n : Nat) (origin : Port) (m : CellNo) (r : Port) (j : SlotNo) : (s.createMessage n origin m).slot r j = s.slot r j := (rfl)

/-! ## halt -/

@[simp] theorem halt_pending (e : ControlEntry) (a : Agent) : (s.halt e a).pending = s.pending := (rfl)
@[simp] theorem halt_deviceLine (e : ControlEntry) (a : Agent) : (s.halt e a).deviceLine = s.deviceLine := (rfl)
@[simp] theorem halt_walk (e : ControlEntry) (a : Agent) : (s.halt e a).walk = s.walk := (rfl)
@[simp] theorem halt_tickPeriod (e : ControlEntry) (a : Agent) : (s.halt e a).tickPeriod = s.tickPeriod := (rfl)
@[simp] theorem halt_store (e : ControlEntry) (a : Agent) : (s.halt e a).store = s.store := (rfl)
@[simp] theorem halt_faultMarks (e : ControlEntry) (a : Agent) : (s.halt e a).faultMarks = s.faultMarks := (rfl)
@[simp] theorem halt_retired (e : ControlEntry) (a : Agent) : (s.halt e a).retired = s.retired := (rfl)
@[simp] theorem halt_formatRetired (e : ControlEntry) (a : Agent) : (s.halt e a).formatRetired = s.formatRetired := (rfl)
@[simp] theorem halt_freeList (e : ControlEntry) (a : Agent) : (s.halt e a).freeList = s.freeList := (rfl)
@[simp] theorem halt_messages (e : ControlEntry) (a : Agent) : (s.halt e a).messages = s.messages := (rfl)
@[simp] theorem halt_parityErrors (e : ControlEntry) (a : Agent) : (s.halt e a).parityErrors = s.parityErrors := (rfl)
@[simp] theorem halt_queues (e : ControlEntry) (a : Agent) : (s.halt e a).queues = s.queues := (rfl)
@[simp] theorem halt_ports (e : ControlEntry) (a : Agent) : (s.halt e a).ports = s.ports := (rfl)
@[simp] theorem halt_holdings (e : ControlEntry) (a : Agent) : (s.halt e a).holdings = s.holdings := (rfl)
@[simp] theorem halt_lastGranted (e : ControlEntry) (a : Agent) : (s.halt e a).lastGranted = s.lastGranted := (rfl)
@[simp] theorem halt_tick (e : ControlEntry) (a : Agent) : (s.halt e a).tick = s.tick := (rfl)
@[simp] theorem halt_timeouts (e : ControlEntry) (a : Agent) : (s.halt e a).timeouts = s.timeouts := (rfl)
@[simp] theorem halt_jobs (e : ControlEntry) (a : Agent) : (s.halt e a).jobs = s.jobs := (rfl)
@[simp] theorem halt_correctable (e : ControlEntry) (a : Agent) : (s.halt e a).correctable = s.correctable := (rfl)
@[simp] theorem halt_uncorrectable (e : ControlEntry) (a : Agent) : (s.halt e a).uncorrectable = s.uncorrectable := (rfl)
@[simp] theorem halt_overflow (e : ControlEntry) (a : Agent) : (s.halt e a).overflow = s.overflow := (rfl)
@[simp] theorem halt_interfaces (e : ControlEntry) (a : Agent) : (s.halt e a).interfaces = s.interfaces := (rfl)
@[simp] theorem halt_notices (e : ControlEntry) (a : Agent) : (s.halt e a).notices = s.notices := (rfl)
@[simp] theorem halt_queue (e : ControlEntry) (a : Agent) (r : QueueNo) : (s.halt e a).queue r = s.queue r := (rfl)
@[simp] theorem halt_port (e : ControlEntry) (a : Agent) (r : Port) : (s.halt e a).port r = s.port r := (rfl)
@[simp] theorem halt_interface (e : ControlEntry) (a : Agent) (r : Port) : (s.halt e a).interface r = s.interface r := (rfl)
@[simp] theorem halt_noticeUnit (e : ControlEntry) (a : Agent) (r : Port) : (s.halt e a).noticeUnit r = s.noticeUnit r := (rfl)
@[simp] theorem halt_slot (e : ControlEntry) (a : Agent) (r : Port) (j : SlotNo) : (s.halt e a).slot r j = s.slot r j := (rfl)
@[simp] theorem halt_message (e : ControlEntry) (a : Agent) (k : CellNo) : (s.halt e a).message k = s.message k := (rfl)

/-! ## insertTimeout -/

@[simp] theorem insertTimeout_pending (e : TimeoutEntry) : (s.insertTimeout e).pending = s.pending := (rfl)
@[simp] theorem insertTimeout_device (e : TimeoutEntry) : (s.insertTimeout e).device = s.device := (rfl)
@[simp] theorem insertTimeout_deviceLine (e : TimeoutEntry) : (s.insertTimeout e).deviceLine = s.deviceLine := (rfl)
@[simp] theorem insertTimeout_walk (e : TimeoutEntry) : (s.insertTimeout e).walk = s.walk := (rfl)
@[simp] theorem insertTimeout_tickPeriod (e : TimeoutEntry) : (s.insertTimeout e).tickPeriod = s.tickPeriod := (rfl)
@[simp] theorem insertTimeout_store (e : TimeoutEntry) : (s.insertTimeout e).store = s.store := (rfl)
@[simp] theorem insertTimeout_faultMarks (e : TimeoutEntry) : (s.insertTimeout e).faultMarks = s.faultMarks := (rfl)
@[simp] theorem insertTimeout_retired (e : TimeoutEntry) : (s.insertTimeout e).retired = s.retired := (rfl)
@[simp] theorem insertTimeout_formatRetired (e : TimeoutEntry) : (s.insertTimeout e).formatRetired = s.formatRetired := (rfl)
@[simp] theorem insertTimeout_freeList (e : TimeoutEntry) : (s.insertTimeout e).freeList = s.freeList := (rfl)
@[simp] theorem insertTimeout_messages (e : TimeoutEntry) : (s.insertTimeout e).messages = s.messages := (rfl)
@[simp] theorem insertTimeout_parityErrors (e : TimeoutEntry) : (s.insertTimeout e).parityErrors = s.parityErrors := (rfl)
@[simp] theorem insertTimeout_queues (e : TimeoutEntry) : (s.insertTimeout e).queues = s.queues := (rfl)
@[simp] theorem insertTimeout_ports (e : TimeoutEntry) : (s.insertTimeout e).ports = s.ports := (rfl)
@[simp] theorem insertTimeout_holdings (e : TimeoutEntry) : (s.insertTimeout e).holdings = s.holdings := (rfl)
@[simp] theorem insertTimeout_lastGranted (e : TimeoutEntry) : (s.insertTimeout e).lastGranted = s.lastGranted := (rfl)
@[simp] theorem insertTimeout_tick (e : TimeoutEntry) : (s.insertTimeout e).tick = s.tick := (rfl)
@[simp] theorem insertTimeout_jobs (e : TimeoutEntry) : (s.insertTimeout e).jobs = s.jobs := (rfl)
@[simp] theorem insertTimeout_capture (e : TimeoutEntry) : (s.insertTimeout e).capture = s.capture := (rfl)
@[simp] theorem insertTimeout_correctable (e : TimeoutEntry) : (s.insertTimeout e).correctable = s.correctable := (rfl)
@[simp] theorem insertTimeout_uncorrectable (e : TimeoutEntry) : (s.insertTimeout e).uncorrectable = s.uncorrectable := (rfl)
@[simp] theorem insertTimeout_overflow (e : TimeoutEntry) : (s.insertTimeout e).overflow = s.overflow := (rfl)
@[simp] theorem insertTimeout_interfaces (e : TimeoutEntry) : (s.insertTimeout e).interfaces = s.interfaces := (rfl)
@[simp] theorem insertTimeout_notices (e : TimeoutEntry) : (s.insertTimeout e).notices = s.notices := (rfl)
@[simp] theorem insertTimeout_queue (e : TimeoutEntry) (r : QueueNo) : (s.insertTimeout e).queue r = s.queue r := (rfl)
@[simp] theorem insertTimeout_port (e : TimeoutEntry) (r : Port) : (s.insertTimeout e).port r = s.port r := (rfl)
@[simp] theorem insertTimeout_interface (e : TimeoutEntry) (r : Port) : (s.insertTimeout e).interface r = s.interface r := (rfl)
@[simp] theorem insertTimeout_noticeUnit (e : TimeoutEntry) (r : Port) : (s.insertTimeout e).noticeUnit r = s.noticeUnit r := (rfl)
@[simp] theorem insertTimeout_slot (e : TimeoutEntry) (r : Port) (j : SlotNo) : (s.insertTimeout e).slot r j = s.slot r j := (rfl)
@[simp] theorem insertTimeout_message (e : TimeoutEntry) (k : CellNo) : (s.insertTimeout e).message k = s.message k := (rfl)

/-! ## removeTimeout -/

@[simp] theorem removeTimeout_pending (p : Port) (i : SlotNo) : (s.removeTimeout p i).pending = s.pending := (rfl)
@[simp] theorem removeTimeout_device (p : Port) (i : SlotNo) : (s.removeTimeout p i).device = s.device := (rfl)
@[simp] theorem removeTimeout_deviceLine (p : Port) (i : SlotNo) : (s.removeTimeout p i).deviceLine = s.deviceLine := (rfl)
@[simp] theorem removeTimeout_walk (p : Port) (i : SlotNo) : (s.removeTimeout p i).walk = s.walk := (rfl)
@[simp] theorem removeTimeout_tickPeriod (p : Port) (i : SlotNo) : (s.removeTimeout p i).tickPeriod = s.tickPeriod := (rfl)
@[simp] theorem removeTimeout_store (p : Port) (i : SlotNo) : (s.removeTimeout p i).store = s.store := (rfl)
@[simp] theorem removeTimeout_faultMarks (p : Port) (i : SlotNo) : (s.removeTimeout p i).faultMarks = s.faultMarks := (rfl)
@[simp] theorem removeTimeout_retired (p : Port) (i : SlotNo) : (s.removeTimeout p i).retired = s.retired := (rfl)
@[simp] theorem removeTimeout_formatRetired (p : Port) (i : SlotNo) : (s.removeTimeout p i).formatRetired = s.formatRetired := (rfl)
@[simp] theorem removeTimeout_freeList (p : Port) (i : SlotNo) : (s.removeTimeout p i).freeList = s.freeList := (rfl)
@[simp] theorem removeTimeout_messages (p : Port) (i : SlotNo) : (s.removeTimeout p i).messages = s.messages := (rfl)
@[simp] theorem removeTimeout_parityErrors (p : Port) (i : SlotNo) : (s.removeTimeout p i).parityErrors = s.parityErrors := (rfl)
@[simp] theorem removeTimeout_queues (p : Port) (i : SlotNo) : (s.removeTimeout p i).queues = s.queues := (rfl)
@[simp] theorem removeTimeout_ports (p : Port) (i : SlotNo) : (s.removeTimeout p i).ports = s.ports := (rfl)
@[simp] theorem removeTimeout_holdings (p : Port) (i : SlotNo) : (s.removeTimeout p i).holdings = s.holdings := (rfl)
@[simp] theorem removeTimeout_lastGranted (p : Port) (i : SlotNo) : (s.removeTimeout p i).lastGranted = s.lastGranted := (rfl)
@[simp] theorem removeTimeout_tick (p : Port) (i : SlotNo) : (s.removeTimeout p i).tick = s.tick := (rfl)
@[simp] theorem removeTimeout_jobs (p : Port) (i : SlotNo) : (s.removeTimeout p i).jobs = s.jobs := (rfl)
@[simp] theorem removeTimeout_capture (p : Port) (i : SlotNo) : (s.removeTimeout p i).capture = s.capture := (rfl)
@[simp] theorem removeTimeout_correctable (p : Port) (i : SlotNo) : (s.removeTimeout p i).correctable = s.correctable := (rfl)
@[simp] theorem removeTimeout_uncorrectable (p : Port) (i : SlotNo) : (s.removeTimeout p i).uncorrectable = s.uncorrectable := (rfl)
@[simp] theorem removeTimeout_overflow (p : Port) (i : SlotNo) : (s.removeTimeout p i).overflow = s.overflow := (rfl)
@[simp] theorem removeTimeout_interfaces (p : Port) (i : SlotNo) : (s.removeTimeout p i).interfaces = s.interfaces := (rfl)
@[simp] theorem removeTimeout_notices (p : Port) (i : SlotNo) : (s.removeTimeout p i).notices = s.notices := (rfl)
@[simp] theorem removeTimeout_queue (p : Port) (i : SlotNo) (r : QueueNo) : (s.removeTimeout p i).queue r = s.queue r := (rfl)
@[simp] theorem removeTimeout_port (p : Port) (i : SlotNo) (r : Port) : (s.removeTimeout p i).port r = s.port r := (rfl)
@[simp] theorem removeTimeout_interface (p : Port) (i : SlotNo) (r : Port) : (s.removeTimeout p i).interface r = s.interface r := (rfl)
@[simp] theorem removeTimeout_noticeUnit (p : Port) (i : SlotNo) (r : Port) : (s.removeTimeout p i).noticeUnit r = s.noticeUnit r := (rfl)
@[simp] theorem removeTimeout_slot (p : Port) (i : SlotNo) (r : Port) (j : SlotNo) : (s.removeTimeout p i).slot r j = s.slot r j := (rfl)
@[simp] theorem removeTimeout_message (p : Port) (i : SlotNo) (k : CellNo) : (s.removeTimeout p i).message k = s.message k := (rfl)

/-! ## markDue -/

@[simp] theorem markDue_pending : (s.markDue).pending = s.pending := (rfl)
@[simp] theorem markDue_device : (s.markDue).device = s.device := (rfl)
@[simp] theorem markDue_deviceLine : (s.markDue).deviceLine = s.deviceLine := (rfl)
@[simp] theorem markDue_walk : (s.markDue).walk = s.walk := (rfl)
@[simp] theorem markDue_tickPeriod : (s.markDue).tickPeriod = s.tickPeriod := (rfl)
@[simp] theorem markDue_store : (s.markDue).store = s.store := (rfl)
@[simp] theorem markDue_faultMarks : (s.markDue).faultMarks = s.faultMarks := (rfl)
@[simp] theorem markDue_retired : (s.markDue).retired = s.retired := (rfl)
@[simp] theorem markDue_formatRetired : (s.markDue).formatRetired = s.formatRetired := (rfl)
@[simp] theorem markDue_freeList : (s.markDue).freeList = s.freeList := (rfl)
@[simp] theorem markDue_messages : (s.markDue).messages = s.messages := (rfl)
@[simp] theorem markDue_parityErrors : (s.markDue).parityErrors = s.parityErrors := (rfl)
@[simp] theorem markDue_queues : (s.markDue).queues = s.queues := (rfl)
@[simp] theorem markDue_ports : (s.markDue).ports = s.ports := (rfl)
@[simp] theorem markDue_holdings : (s.markDue).holdings = s.holdings := (rfl)
@[simp] theorem markDue_lastGranted : (s.markDue).lastGranted = s.lastGranted := (rfl)
@[simp] theorem markDue_tick : (s.markDue).tick = s.tick := (rfl)
@[simp] theorem markDue_jobs : (s.markDue).jobs = s.jobs := (rfl)
@[simp] theorem markDue_capture : (s.markDue).capture = s.capture := (rfl)
@[simp] theorem markDue_correctable : (s.markDue).correctable = s.correctable := (rfl)
@[simp] theorem markDue_uncorrectable : (s.markDue).uncorrectable = s.uncorrectable := (rfl)
@[simp] theorem markDue_overflow : (s.markDue).overflow = s.overflow := (rfl)
@[simp] theorem markDue_interfaces : (s.markDue).interfaces = s.interfaces := (rfl)
@[simp] theorem markDue_notices : (s.markDue).notices = s.notices := (rfl)
@[simp] theorem markDue_queue (r : QueueNo) : (s.markDue).queue r = s.queue r := (rfl)
@[simp] theorem markDue_port (r : Port) : (s.markDue).port r = s.port r := (rfl)
@[simp] theorem markDue_interface (r : Port) : (s.markDue).interface r = s.interface r := (rfl)
@[simp] theorem markDue_noticeUnit (r : Port) : (s.markDue).noticeUnit r = s.noticeUnit r := (rfl)
@[simp] theorem markDue_slot (r : Port) (j : SlotNo) : (s.markDue).slot r j = s.slot r j := (rfl)
@[simp] theorem markDue_message (k : CellNo) : (s.markDue).message k = s.message k := (rfl)

/-! ## clearClaims -/

@[simp] theorem clearClaims_pending (p : Port) : (s.clearClaims p).pending = s.pending := (rfl)
@[simp] theorem clearClaims_device (p : Port) : (s.clearClaims p).device = s.device := (rfl)
@[simp] theorem clearClaims_deviceLine (p : Port) : (s.clearClaims p).deviceLine = s.deviceLine := (rfl)
@[simp] theorem clearClaims_walk (p : Port) : (s.clearClaims p).walk = s.walk := (rfl)
@[simp] theorem clearClaims_tickPeriod (p : Port) : (s.clearClaims p).tickPeriod = s.tickPeriod := (rfl)
@[simp] theorem clearClaims_store (p : Port) : (s.clearClaims p).store = s.store := (rfl)
@[simp] theorem clearClaims_faultMarks (p : Port) : (s.clearClaims p).faultMarks = s.faultMarks := (rfl)
@[simp] theorem clearClaims_retired (p : Port) : (s.clearClaims p).retired = s.retired := (rfl)
@[simp] theorem clearClaims_formatRetired (p : Port) : (s.clearClaims p).formatRetired = s.formatRetired := (rfl)
@[simp] theorem clearClaims_freeList (p : Port) : (s.clearClaims p).freeList = s.freeList := (rfl)
@[simp] theorem clearClaims_messages (p : Port) : (s.clearClaims p).messages = s.messages := (rfl)
@[simp] theorem clearClaims_parityErrors (p : Port) : (s.clearClaims p).parityErrors = s.parityErrors := (rfl)
@[simp] theorem clearClaims_ports (p : Port) : (s.clearClaims p).ports = s.ports := (rfl)
@[simp] theorem clearClaims_holdings (p : Port) : (s.clearClaims p).holdings = s.holdings := (rfl)
@[simp] theorem clearClaims_lastGranted (p : Port) : (s.clearClaims p).lastGranted = s.lastGranted := (rfl)
@[simp] theorem clearClaims_tick (p : Port) : (s.clearClaims p).tick = s.tick := (rfl)
@[simp] theorem clearClaims_timeouts (p : Port) : (s.clearClaims p).timeouts = s.timeouts := (rfl)
@[simp] theorem clearClaims_jobs (p : Port) : (s.clearClaims p).jobs = s.jobs := (rfl)
@[simp] theorem clearClaims_capture (p : Port) : (s.clearClaims p).capture = s.capture := (rfl)
@[simp] theorem clearClaims_correctable (p : Port) : (s.clearClaims p).correctable = s.correctable := (rfl)
@[simp] theorem clearClaims_uncorrectable (p : Port) : (s.clearClaims p).uncorrectable = s.uncorrectable := (rfl)
@[simp] theorem clearClaims_overflow (p : Port) : (s.clearClaims p).overflow = s.overflow := (rfl)
@[simp] theorem clearClaims_interfaces (p : Port) : (s.clearClaims p).interfaces = s.interfaces := (rfl)
@[simp] theorem clearClaims_notices (p : Port) : (s.clearClaims p).notices = s.notices := (rfl)
@[simp] theorem clearClaims_port (p : Port) (r : Port) : (s.clearClaims p).port r = s.port r := (rfl)
@[simp] theorem clearClaims_interface (p : Port) (r : Port) : (s.clearClaims p).interface r = s.interface r := (rfl)
@[simp] theorem clearClaims_noticeUnit (p : Port) (r : Port) : (s.clearClaims p).noticeUnit r = s.noticeUnit r := (rfl)
@[simp] theorem clearClaims_slot (p : Port) (r : Port) (j : SlotNo) : (s.clearClaims p).slot r j = s.slot r j := (rfl)
@[simp] theorem clearClaims_message (p : Port) (k : CellNo) : (s.clearClaims p).message k = s.message k := (rfl)

/-! ## An entry written and read back -/

@[simp] theorem setQueue_queue_same (q : QueueNo) (d : Queue) : (s.setQueue q d).queue q = d := by
  simp [setQueue, queue]

theorem setQueue_queue_other (q r : QueueNo) (d : Queue) (h : r ≠ q) : (s.setQueue q d).queue r = s.queue r := by
  have : q.val ≠ r.val := fun e => h (Fin.ext e.symm)
  simp [setQueue, queue, this]

@[simp] theorem setPortEntry_port_same (p : Port) (e : PortEntry) : (s.setPortEntry p e).port p = e := by
  simp [setPortEntry, port]

theorem setPortEntry_port_other (p r : Port) (e : PortEntry) (h : r ≠ p) :
    (s.setPortEntry p e).port r = s.port r := by
  have : p.val ≠ r.val := fun e => h (Fin.ext e.symm)
  simp [setPortEntry, port, this]

@[simp] theorem setInterface_interface_same (p : Port) (i : PortInterface) : (s.setInterface p i).interface p = i := by
  simp [setInterface, interface]

theorem setInterface_interface_other (p r : Port) (i : PortInterface) (h : r ≠ p) :
    (s.setInterface p i).interface r = s.interface r := by
  have : p.val ≠ r.val := fun e => h (Fin.ext e.symm)
  simp [setInterface, interface, this]

@[simp] theorem setNoticeUnit_noticeUnit_same (p : Port) (u : NoticeUnit) :
    (s.setNoticeUnit p u).noticeUnit p = u := by
  simp [setNoticeUnit, noticeUnit]

theorem setNoticeUnit_noticeUnit_other (p r : Port) (u : NoticeUnit) (h : r ≠ p) :
    (s.setNoticeUnit p u).noticeUnit r = s.noticeUnit r := by
  have : p.val ≠ r.val := fun e => h (Fin.ext e.symm)
  simp [setNoticeUnit, noticeUnit, this]

@[simp] theorem setSlot_slot_same (p : Port) (i : SlotNo) (x : Slot) : (s.setSlot p i x).slot p i = x := by
  simp [setSlot, slot]

theorem setSlot_slot_other (p r : Port) (i j : SlotNo) (x : Slot) (h : r ≠ p ∨ j ≠ i) :
    (s.setSlot p i x).slot r j = s.slot r j := by
  by_cases hr : r = p
  · subst hr
    have hj : i.val ≠ j.val := fun e => (h.resolve_left (fun n => n rfl)) (Fin.ext e.symm)
    simp [setSlot, slot, hj]
  · have : p.val ≠ r.val := fun e => hr (Fin.ext e.symm)
    simp [setSlot, slot, this]

/-! ## Writing back what is there, and writing twice -/

@[simp] theorem setInterface_setInterface (p : Port) (i j : PortInterface) :
    (s.setInterface p i).setInterface p j = s.setInterface p j := by
  simp [setInterface, Vector.set_set]

@[simp] theorem setQueue_setQueue (q : QueueNo) (d e : Queue) : (s.setQueue q d).setQueue q e = s.setQueue q e := by
  simp [setQueue, Vector.set_set]

theorem setInterface_self (p : Port) : s.setInterface p (s.interface p) = s := by
  simp [setInterface, interface]

theorem setQueue_self (q : QueueNo) : s.setQueue q (s.queue q) = s := by
  simp [setQueue, queue]

end Sys2Proof.Machine.State
end

