-- ==== Sys2Proof/Laws/Ops.lean ====
section
/-! SUPPORT. Laws/Ops.lean: what each shared operation can change. `op_frame` says that the state after it is
the state before with the named fields replaced. A lemma `op_field` for each other field follows. -/

namespace Sys2Proof.Machine.State

variable (s : State)

/-! ## complete -/

theorem complete_frame (p : Port) (o : OutcomeCode) (rs : Results) :
    s.complete p o rs =
      { s with
        interfaces := (s.complete p o rs).interfaces } := by
  unfold complete; split <;> rfl

@[simp] theorem complete_pending (p : Port) (o : OutcomeCode) (rs : Results) : (s.complete p o rs).pending = s.pending :=
  (congrArg State.pending (complete_frame s p o rs)).trans rfl
@[simp] theorem complete_device (p : Port) (o : OutcomeCode) (rs : Results) : (s.complete p o rs).device = s.device :=
  (congrArg State.device (complete_frame s p o rs)).trans rfl
@[simp] theorem complete_deviceLine (p : Port) (o : OutcomeCode) (rs : Results) : (s.complete p o rs).deviceLine = s.deviceLine :=
  (congrArg State.deviceLine (complete_frame s p o rs)).trans rfl
@[simp] theorem complete_walk (p : Port) (o : OutcomeCode) (rs : Results) : (s.complete p o rs).walk = s.walk :=
  (congrArg State.walk (complete_frame s p o rs)).trans rfl
@[simp] theorem complete_tickPeriod (p : Port) (o : OutcomeCode) (rs : Results) : (s.complete p o rs).tickPeriod = s.tickPeriod :=
  (congrArg State.tickPeriod (complete_frame s p o rs)).trans rfl
@[simp] theorem complete_store (p : Port) (o : OutcomeCode) (rs : Results) : (s.complete p o rs).store = s.store :=
  (congrArg State.store (complete_frame s p o rs)).trans rfl
@[simp] theorem complete_faultMarks (p : Port) (o : OutcomeCode) (rs : Results) : (s.complete p o rs).faultMarks = s.faultMarks :=
  (congrArg State.faultMarks (complete_frame s p o rs)).trans rfl
@[simp] theorem complete_retired (p : Port) (o : OutcomeCode) (rs : Results) : (s.complete p o rs).retired = s.retired :=
  (congrArg State.retired (complete_frame s p o rs)).trans rfl
@[simp] theorem complete_formatRetired (p : Port) (o : OutcomeCode) (rs : Results) : (s.complete p o rs).formatRetired = s.formatRetired :=
  (congrArg State.formatRetired (complete_frame s p o rs)).trans rfl
@[simp] theorem complete_freeList (p : Port) (o : OutcomeCode) (rs : Results) : (s.complete p o rs).freeList = s.freeList :=
  (congrArg State.freeList (complete_frame s p o rs)).trans rfl
@[simp] theorem complete_messages (p : Port) (o : OutcomeCode) (rs : Results) : (s.complete p o rs).messages = s.messages :=
  (congrArg State.messages (complete_frame s p o rs)).trans rfl
@[simp] theorem complete_parityErrors (p : Port) (o : OutcomeCode) (rs : Results) : (s.complete p o rs).parityErrors = s.parityErrors :=
  (congrArg State.parityErrors (complete_frame s p o rs)).trans rfl
@[simp] theorem complete_queues (p : Port) (o : OutcomeCode) (rs : Results) : (s.complete p o rs).queues = s.queues :=
  (congrArg State.queues (complete_frame s p o rs)).trans rfl
@[simp] theorem complete_ports (p : Port) (o : OutcomeCode) (rs : Results) : (s.complete p o rs).ports = s.ports :=
  (congrArg State.ports (complete_frame s p o rs)).trans rfl
@[simp] theorem complete_holdings (p : Port) (o : OutcomeCode) (rs : Results) : (s.complete p o rs).holdings = s.holdings :=
  (congrArg State.holdings (complete_frame s p o rs)).trans rfl
@[simp] theorem complete_lastGranted (p : Port) (o : OutcomeCode) (rs : Results) : (s.complete p o rs).lastGranted = s.lastGranted :=
  (congrArg State.lastGranted (complete_frame s p o rs)).trans rfl
@[simp] theorem complete_tick (p : Port) (o : OutcomeCode) (rs : Results) : (s.complete p o rs).tick = s.tick :=
  (congrArg State.tick (complete_frame s p o rs)).trans rfl
@[simp] theorem complete_timeouts (p : Port) (o : OutcomeCode) (rs : Results) : (s.complete p o rs).timeouts = s.timeouts :=
  (congrArg State.timeouts (complete_frame s p o rs)).trans rfl
@[simp] theorem complete_jobs (p : Port) (o : OutcomeCode) (rs : Results) : (s.complete p o rs).jobs = s.jobs :=
  (congrArg State.jobs (complete_frame s p o rs)).trans rfl
@[simp] theorem complete_capture (p : Port) (o : OutcomeCode) (rs : Results) : (s.complete p o rs).capture = s.capture :=
  (congrArg State.capture (complete_frame s p o rs)).trans rfl
@[simp] theorem complete_correctable (p : Port) (o : OutcomeCode) (rs : Results) : (s.complete p o rs).correctable = s.correctable :=
  (congrArg State.correctable (complete_frame s p o rs)).trans rfl
@[simp] theorem complete_uncorrectable (p : Port) (o : OutcomeCode) (rs : Results) : (s.complete p o rs).uncorrectable = s.uncorrectable :=
  (congrArg State.uncorrectable (complete_frame s p o rs)).trans rfl
@[simp] theorem complete_overflow (p : Port) (o : OutcomeCode) (rs : Results) : (s.complete p o rs).overflow = s.overflow :=
  (congrArg State.overflow (complete_frame s p o rs)).trans rfl
@[simp] theorem complete_notices (p : Port) (o : OutcomeCode) (rs : Results) : (s.complete p o rs).notices = s.notices :=
  (congrArg State.notices (complete_frame s p o rs)).trans rfl
@[simp] theorem complete_queue (p : Port) (o : OutcomeCode) (rs : Results) (r : QueueNo) : (s.complete p o rs).queue r = s.queue r :=
  (congrArg (fun t => State.queue t r) (complete_frame s p o rs)).trans rfl
@[simp] theorem complete_port (p : Port) (o : OutcomeCode) (rs : Results) (r : Port) : (s.complete p o rs).port r = s.port r :=
  (congrArg (fun t => State.port t r) (complete_frame s p o rs)).trans rfl
@[simp] theorem complete_noticeUnit (p : Port) (o : OutcomeCode) (rs : Results) (r : Port) : (s.complete p o rs).noticeUnit r = s.noticeUnit r :=
  (congrArg (fun t => State.noticeUnit t r) (complete_frame s p o rs)).trans rfl
@[simp] theorem complete_slot (p : Port) (o : OutcomeCode) (rs : Results) (r : Port) (j : SlotNo) : (s.complete p o rs).slot r j = s.slot r j :=
  (congrArg (fun t => State.slot t r j) (complete_frame s p o rs)).trans rfl
@[simp] theorem complete_message (p : Port) (o : OutcomeCode) (rs : Results) (k : CellNo) : (s.complete p o rs).message k = s.message k :=
  (congrArg (fun t => State.message t k) (complete_frame s p o rs)).trans rfl

/-! ## setFlag -/

theorem setFlag_frame (p : Port) (f : StickyFlag) :
    s.setFlag p f =
      { s with
        interfaces := (s.setFlag p f).interfaces } := by
  unfold setFlag; split <;> rfl

@[simp] theorem setFlag_pending (p : Port) (f : StickyFlag) : (s.setFlag p f).pending = s.pending :=
  (congrArg State.pending (setFlag_frame s p f)).trans rfl
@[simp] theorem setFlag_device (p : Port) (f : StickyFlag) : (s.setFlag p f).device = s.device :=
  (congrArg State.device (setFlag_frame s p f)).trans rfl
@[simp] theorem setFlag_deviceLine (p : Port) (f : StickyFlag) : (s.setFlag p f).deviceLine = s.deviceLine :=
  (congrArg State.deviceLine (setFlag_frame s p f)).trans rfl
@[simp] theorem setFlag_walk (p : Port) (f : StickyFlag) : (s.setFlag p f).walk = s.walk :=
  (congrArg State.walk (setFlag_frame s p f)).trans rfl
@[simp] theorem setFlag_tickPeriod (p : Port) (f : StickyFlag) : (s.setFlag p f).tickPeriod = s.tickPeriod :=
  (congrArg State.tickPeriod (setFlag_frame s p f)).trans rfl
@[simp] theorem setFlag_store (p : Port) (f : StickyFlag) : (s.setFlag p f).store = s.store :=
  (congrArg State.store (setFlag_frame s p f)).trans rfl
@[simp] theorem setFlag_faultMarks (p : Port) (f : StickyFlag) : (s.setFlag p f).faultMarks = s.faultMarks :=
  (congrArg State.faultMarks (setFlag_frame s p f)).trans rfl
@[simp] theorem setFlag_retired (p : Port) (f : StickyFlag) : (s.setFlag p f).retired = s.retired :=
  (congrArg State.retired (setFlag_frame s p f)).trans rfl
@[simp] theorem setFlag_formatRetired (p : Port) (f : StickyFlag) : (s.setFlag p f).formatRetired = s.formatRetired :=
  (congrArg State.formatRetired (setFlag_frame s p f)).trans rfl
@[simp] theorem setFlag_freeList (p : Port) (f : StickyFlag) : (s.setFlag p f).freeList = s.freeList :=
  (congrArg State.freeList (setFlag_frame s p f)).trans rfl
@[simp] theorem setFlag_messages (p : Port) (f : StickyFlag) : (s.setFlag p f).messages = s.messages :=
  (congrArg State.messages (setFlag_frame s p f)).trans rfl
@[simp] theorem setFlag_parityErrors (p : Port) (f : StickyFlag) : (s.setFlag p f).parityErrors = s.parityErrors :=
  (congrArg State.parityErrors (setFlag_frame s p f)).trans rfl
@[simp] theorem setFlag_queues (p : Port) (f : StickyFlag) : (s.setFlag p f).queues = s.queues :=
  (congrArg State.queues (setFlag_frame s p f)).trans rfl
@[simp] theorem setFlag_ports (p : Port) (f : StickyFlag) : (s.setFlag p f).ports = s.ports :=
  (congrArg State.ports (setFlag_frame s p f)).trans rfl
@[simp] theorem setFlag_holdings (p : Port) (f : StickyFlag) : (s.setFlag p f).holdings = s.holdings :=
  (congrArg State.holdings (setFlag_frame s p f)).trans rfl
@[simp] theorem setFlag_lastGranted (p : Port) (f : StickyFlag) : (s.setFlag p f).lastGranted = s.lastGranted :=
  (congrArg State.lastGranted (setFlag_frame s p f)).trans rfl
@[simp] theorem setFlag_tick (p : Port) (f : StickyFlag) : (s.setFlag p f).tick = s.tick :=
  (congrArg State.tick (setFlag_frame s p f)).trans rfl
@[simp] theorem setFlag_timeouts (p : Port) (f : StickyFlag) : (s.setFlag p f).timeouts = s.timeouts :=
  (congrArg State.timeouts (setFlag_frame s p f)).trans rfl
@[simp] theorem setFlag_jobs (p : Port) (f : StickyFlag) : (s.setFlag p f).jobs = s.jobs :=
  (congrArg State.jobs (setFlag_frame s p f)).trans rfl
@[simp] theorem setFlag_capture (p : Port) (f : StickyFlag) : (s.setFlag p f).capture = s.capture :=
  (congrArg State.capture (setFlag_frame s p f)).trans rfl
@[simp] theorem setFlag_correctable (p : Port) (f : StickyFlag) : (s.setFlag p f).correctable = s.correctable :=
  (congrArg State.correctable (setFlag_frame s p f)).trans rfl
@[simp] theorem setFlag_uncorrectable (p : Port) (f : StickyFlag) : (s.setFlag p f).uncorrectable = s.uncorrectable :=
  (congrArg State.uncorrectable (setFlag_frame s p f)).trans rfl
@[simp] theorem setFlag_overflow (p : Port) (f : StickyFlag) : (s.setFlag p f).overflow = s.overflow :=
  (congrArg State.overflow (setFlag_frame s p f)).trans rfl
@[simp] theorem setFlag_notices (p : Port) (f : StickyFlag) : (s.setFlag p f).notices = s.notices :=
  (congrArg State.notices (setFlag_frame s p f)).trans rfl
@[simp] theorem setFlag_queue (p : Port) (f : StickyFlag) (r : QueueNo) : (s.setFlag p f).queue r = s.queue r :=
  (congrArg (fun t => State.queue t r) (setFlag_frame s p f)).trans rfl
@[simp] theorem setFlag_port (p : Port) (f : StickyFlag) (r : Port) : (s.setFlag p f).port r = s.port r :=
  (congrArg (fun t => State.port t r) (setFlag_frame s p f)).trans rfl
@[simp] theorem setFlag_noticeUnit (p : Port) (f : StickyFlag) (r : Port) : (s.setFlag p f).noticeUnit r = s.noticeUnit r :=
  (congrArg (fun t => State.noticeUnit t r) (setFlag_frame s p f)).trans rfl
@[simp] theorem setFlag_slot (p : Port) (f : StickyFlag) (r : Port) (j : SlotNo) : (s.setFlag p f).slot r j = s.slot r j :=
  (congrArg (fun t => State.slot t r j) (setFlag_frame s p f)).trans rfl
@[simp] theorem setFlag_message (p : Port) (f : StickyFlag) (k : CellNo) : (s.setFlag p f).message k = s.message k :=
  (congrArg (fun t => State.message t k) (setFlag_frame s p f)).trans rfl

/-! ## startCommand -/

theorem startCommand_frame (p : Port) (c : CommandCode) (o : Operands) :
    s.startCommand p c o =
      { s with
        lastGranted := (s.startCommand p c o).lastGranted
        interfaces := (s.startCommand p c o).interfaces } := rfl

@[simp] theorem startCommand_pending (p : Port) (c : CommandCode) (o : Operands) : (s.startCommand p c o).pending = s.pending := (rfl)
@[simp] theorem startCommand_device (p : Port) (c : CommandCode) (o : Operands) : (s.startCommand p c o).device = s.device := (rfl)
@[simp] theorem startCommand_deviceLine (p : Port) (c : CommandCode) (o : Operands) : (s.startCommand p c o).deviceLine = s.deviceLine := (rfl)
@[simp] theorem startCommand_walk (p : Port) (c : CommandCode) (o : Operands) : (s.startCommand p c o).walk = s.walk := (rfl)
@[simp] theorem startCommand_tickPeriod (p : Port) (c : CommandCode) (o : Operands) : (s.startCommand p c o).tickPeriod = s.tickPeriod := (rfl)
@[simp] theorem startCommand_store (p : Port) (c : CommandCode) (o : Operands) : (s.startCommand p c o).store = s.store := (rfl)
@[simp] theorem startCommand_faultMarks (p : Port) (c : CommandCode) (o : Operands) : (s.startCommand p c o).faultMarks = s.faultMarks := (rfl)
@[simp] theorem startCommand_retired (p : Port) (c : CommandCode) (o : Operands) : (s.startCommand p c o).retired = s.retired := (rfl)
@[simp] theorem startCommand_formatRetired (p : Port) (c : CommandCode) (o : Operands) : (s.startCommand p c o).formatRetired = s.formatRetired := (rfl)
@[simp] theorem startCommand_freeList (p : Port) (c : CommandCode) (o : Operands) : (s.startCommand p c o).freeList = s.freeList := (rfl)
@[simp] theorem startCommand_messages (p : Port) (c : CommandCode) (o : Operands) : (s.startCommand p c o).messages = s.messages := (rfl)
@[simp] theorem startCommand_parityErrors (p : Port) (c : CommandCode) (o : Operands) : (s.startCommand p c o).parityErrors = s.parityErrors := (rfl)
@[simp] theorem startCommand_queues (p : Port) (c : CommandCode) (o : Operands) : (s.startCommand p c o).queues = s.queues := (rfl)
@[simp] theorem startCommand_ports (p : Port) (c : CommandCode) (o : Operands) : (s.startCommand p c o).ports = s.ports := (rfl)
@[simp] theorem startCommand_holdings (p : Port) (c : CommandCode) (o : Operands) : (s.startCommand p c o).holdings = s.holdings := (rfl)
@[simp] theorem startCommand_tick (p : Port) (c : CommandCode) (o : Operands) : (s.startCommand p c o).tick = s.tick := (rfl)
@[simp] theorem startCommand_timeouts (p : Port) (c : CommandCode) (o : Operands) : (s.startCommand p c o).timeouts = s.timeouts := (rfl)
@[simp] theorem startCommand_jobs (p : Port) (c : CommandCode) (o : Operands) : (s.startCommand p c o).jobs = s.jobs := (rfl)
@[simp] theorem startCommand_capture (p : Port) (c : CommandCode) (o : Operands) : (s.startCommand p c o).capture = s.capture := (rfl)
@[simp] theorem startCommand_correctable (p : Port) (c : CommandCode) (o : Operands) : (s.startCommand p c o).correctable = s.correctable := (rfl)
@[simp] theorem startCommand_uncorrectable (p : Port) (c : CommandCode) (o : Operands) : (s.startCommand p c o).uncorrectable = s.uncorrectable := (rfl)
@[simp] theorem startCommand_overflow (p : Port) (c : CommandCode) (o : Operands) : (s.startCommand p c o).overflow = s.overflow := (rfl)
@[simp] theorem startCommand_notices (p : Port) (c : CommandCode) (o : Operands) : (s.startCommand p c o).notices = s.notices := (rfl)
@[simp] theorem startCommand_queue (p : Port) (c : CommandCode) (o : Operands) (r : QueueNo) : (s.startCommand p c o).queue r = s.queue r :=
  (rfl)
@[simp] theorem startCommand_port (p : Port) (c : CommandCode) (o : Operands) (r : Port) : (s.startCommand p c o).port r = s.port r :=
  (rfl)
@[simp] theorem startCommand_noticeUnit (p : Port) (c : CommandCode) (o : Operands) (r : Port) : (s.startCommand p c o).noticeUnit r = s.noticeUnit r :=
  (rfl)
@[simp] theorem startCommand_slot (p : Port) (c : CommandCode) (o : Operands) (r : Port) (j : SlotNo) : (s.startCommand p c o).slot r j = s.slot r j :=
  (rfl)
@[simp] theorem startCommand_message (p : Port) (c : CommandCode) (o : Operands) (k : CellNo) : (s.startCommand p c o).message k = s.message k :=
  (rfl)

/-! ## grantTo -/

theorem grantTo_frame (x : Requester) :
    s.grantTo x =
      { s with
        lastGranted := (s.grantTo x).lastGranted } := rfl

@[simp] theorem grantTo_pending (x : Requester) : (s.grantTo x).pending = s.pending := (rfl)
@[simp] theorem grantTo_device (x : Requester) : (s.grantTo x).device = s.device := (rfl)
@[simp] theorem grantTo_deviceLine (x : Requester) : (s.grantTo x).deviceLine = s.deviceLine := (rfl)
@[simp] theorem grantTo_walk (x : Requester) : (s.grantTo x).walk = s.walk := (rfl)
@[simp] theorem grantTo_tickPeriod (x : Requester) : (s.grantTo x).tickPeriod = s.tickPeriod := (rfl)
@[simp] theorem grantTo_store (x : Requester) : (s.grantTo x).store = s.store := (rfl)
@[simp] theorem grantTo_faultMarks (x : Requester) : (s.grantTo x).faultMarks = s.faultMarks := (rfl)
@[simp] theorem grantTo_retired (x : Requester) : (s.grantTo x).retired = s.retired := (rfl)
@[simp] theorem grantTo_formatRetired (x : Requester) : (s.grantTo x).formatRetired = s.formatRetired := (rfl)
@[simp] theorem grantTo_freeList (x : Requester) : (s.grantTo x).freeList = s.freeList := (rfl)
@[simp] theorem grantTo_messages (x : Requester) : (s.grantTo x).messages = s.messages := (rfl)
@[simp] theorem grantTo_parityErrors (x : Requester) : (s.grantTo x).parityErrors = s.parityErrors := (rfl)
@[simp] theorem grantTo_queues (x : Requester) : (s.grantTo x).queues = s.queues := (rfl)
@[simp] theorem grantTo_ports (x : Requester) : (s.grantTo x).ports = s.ports := (rfl)
@[simp] theorem grantTo_holdings (x : Requester) : (s.grantTo x).holdings = s.holdings := (rfl)
@[simp] theorem grantTo_tick (x : Requester) : (s.grantTo x).tick = s.tick := (rfl)
@[simp] theorem grantTo_timeouts (x : Requester) : (s.grantTo x).timeouts = s.timeouts := (rfl)
@[simp] theorem grantTo_jobs (x : Requester) : (s.grantTo x).jobs = s.jobs := (rfl)
@[simp] theorem grantTo_capture (x : Requester) : (s.grantTo x).capture = s.capture := (rfl)
@[simp] theorem grantTo_correctable (x : Requester) : (s.grantTo x).correctable = s.correctable := (rfl)
@[simp] theorem grantTo_uncorrectable (x : Requester) : (s.grantTo x).uncorrectable = s.uncorrectable := (rfl)
@[simp] theorem grantTo_overflow (x : Requester) : (s.grantTo x).overflow = s.overflow := (rfl)
@[simp] theorem grantTo_interfaces (x : Requester) : (s.grantTo x).interfaces = s.interfaces := (rfl)
@[simp] theorem grantTo_notices (x : Requester) : (s.grantTo x).notices = s.notices := (rfl)
@[simp] theorem grantTo_queue (x : Requester) (r : QueueNo) : (s.grantTo x).queue r = s.queue r :=
  (rfl)
@[simp] theorem grantTo_port (x : Requester) (r : Port) : (s.grantTo x).port r = s.port r :=
  (rfl)
@[simp] theorem grantTo_interface (x : Requester) (r : Port) : (s.grantTo x).interface r = s.interface r :=
  (rfl)
@[simp] theorem grantTo_noticeUnit (x : Requester) (r : Port) : (s.grantTo x).noticeUnit r = s.noticeUnit r :=
  (rfl)
@[simp] theorem grantTo_slot (x : Requester) (r : Port) (j : SlotNo) : (s.grantTo x).slot r j = s.slot r j :=
  (rfl)
@[simp] theorem grantTo_message (x : Requester) (k : CellNo) : (s.grantTo x).message k = s.message k :=
  (rfl)

/-! ## upset -/

theorem upset_frame (u : Upset) :
    s.upset u =
      { s with
        parityErrors := (s.upset u).parityErrors } := by
  unfold upset; split <;> rfl

@[simp] theorem upset_pending (u : Upset) : (s.upset u).pending = s.pending :=
  (congrArg State.pending (upset_frame s u)).trans rfl
@[simp] theorem upset_device (u : Upset) : (s.upset u).device = s.device :=
  (congrArg State.device (upset_frame s u)).trans rfl
@[simp] theorem upset_deviceLine (u : Upset) : (s.upset u).deviceLine = s.deviceLine :=
  (congrArg State.deviceLine (upset_frame s u)).trans rfl
@[simp] theorem upset_walk (u : Upset) : (s.upset u).walk = s.walk :=
  (congrArg State.walk (upset_frame s u)).trans rfl
@[simp] theorem upset_tickPeriod (u : Upset) : (s.upset u).tickPeriod = s.tickPeriod :=
  (congrArg State.tickPeriod (upset_frame s u)).trans rfl
@[simp] theorem upset_store (u : Upset) : (s.upset u).store = s.store :=
  (congrArg State.store (upset_frame s u)).trans rfl
@[simp] theorem upset_faultMarks (u : Upset) : (s.upset u).faultMarks = s.faultMarks :=
  (congrArg State.faultMarks (upset_frame s u)).trans rfl
@[simp] theorem upset_retired (u : Upset) : (s.upset u).retired = s.retired :=
  (congrArg State.retired (upset_frame s u)).trans rfl
@[simp] theorem upset_formatRetired (u : Upset) : (s.upset u).formatRetired = s.formatRetired :=
  (congrArg State.formatRetired (upset_frame s u)).trans rfl
@[simp] theorem upset_freeList (u : Upset) : (s.upset u).freeList = s.freeList :=
  (congrArg State.freeList (upset_frame s u)).trans rfl
@[simp] theorem upset_messages (u : Upset) : (s.upset u).messages = s.messages :=
  (congrArg State.messages (upset_frame s u)).trans rfl
@[simp] theorem upset_queues (u : Upset) : (s.upset u).queues = s.queues :=
  (congrArg State.queues (upset_frame s u)).trans rfl
@[simp] theorem upset_ports (u : Upset) : (s.upset u).ports = s.ports :=
  (congrArg State.ports (upset_frame s u)).trans rfl
@[simp] theorem upset_holdings (u : Upset) : (s.upset u).holdings = s.holdings :=
  (congrArg State.holdings (upset_frame s u)).trans rfl
@[simp] theorem upset_lastGranted (u : Upset) : (s.upset u).lastGranted = s.lastGranted :=
  (congrArg State.lastGranted (upset_frame s u)).trans rfl
@[simp] theorem upset_tick (u : Upset) : (s.upset u).tick = s.tick :=
  (congrArg State.tick (upset_frame s u)).trans rfl
@[simp] theorem upset_timeouts (u : Upset) : (s.upset u).timeouts = s.timeouts :=
  (congrArg State.timeouts (upset_frame s u)).trans rfl
@[simp] theorem upset_jobs (u : Upset) : (s.upset u).jobs = s.jobs :=
  (congrArg State.jobs (upset_frame s u)).trans rfl
@[simp] theorem upset_capture (u : Upset) : (s.upset u).capture = s.capture :=
  (congrArg State.capture (upset_frame s u)).trans rfl
@[simp] theorem upset_correctable (u : Upset) : (s.upset u).correctable = s.correctable :=
  (congrArg State.correctable (upset_frame s u)).trans rfl
@[simp] theorem upset_uncorrectable (u : Upset) : (s.upset u).uncorrectable = s.uncorrectable :=
  (congrArg State.uncorrectable (upset_frame s u)).trans rfl
@[simp] theorem upset_overflow (u : Upset) : (s.upset u).overflow = s.overflow :=
  (congrArg State.overflow (upset_frame s u)).trans rfl
@[simp] theorem upset_interfaces (u : Upset) : (s.upset u).interfaces = s.interfaces :=
  (congrArg State.interfaces (upset_frame s u)).trans rfl
@[simp] theorem upset_notices (u : Upset) : (s.upset u).notices = s.notices :=
  (congrArg State.notices (upset_frame s u)).trans rfl
@[simp] theorem upset_queue (u : Upset) (r : QueueNo) : (s.upset u).queue r = s.queue r :=
  (congrArg (fun t => State.queue t r) (upset_frame s u)).trans rfl
@[simp] theorem upset_port (u : Upset) (r : Port) : (s.upset u).port r = s.port r :=
  (congrArg (fun t => State.port t r) (upset_frame s u)).trans rfl
@[simp] theorem upset_interface (u : Upset) (r : Port) : (s.upset u).interface r = s.interface r :=
  (congrArg (fun t => State.interface t r) (upset_frame s u)).trans rfl
@[simp] theorem upset_noticeUnit (u : Upset) (r : Port) : (s.upset u).noticeUnit r = s.noticeUnit r :=
  (congrArg (fun t => State.noticeUnit t r) (upset_frame s u)).trans rfl
@[simp] theorem upset_slot (u : Upset) (r : Port) (j : SlotNo) : (s.upset u).slot r j = s.slot r j :=
  (congrArg (fun t => State.slot t r j) (upset_frame s u)).trans rfl
@[simp] theorem upset_message (u : Upset) (k : CellNo) : (s.upset u).message k = s.message k :=
  (congrArg (fun t => State.message t k) (upset_frame s u)).trans rfl

/-! ## raise -/

theorem raise_frame (p : Port) (n : Notice) :
    s.raise p n =
      { s with
        notices := (s.raise p n).notices } := by
  unfold raise; split <;> rfl

@[simp] theorem raise_pending (p : Port) (n : Notice) : (s.raise p n).pending = s.pending :=
  (congrArg State.pending (raise_frame s p n)).trans rfl
@[simp] theorem raise_device (p : Port) (n : Notice) : (s.raise p n).device = s.device :=
  (congrArg State.device (raise_frame s p n)).trans rfl
@[simp] theorem raise_deviceLine (p : Port) (n : Notice) : (s.raise p n).deviceLine = s.deviceLine :=
  (congrArg State.deviceLine (raise_frame s p n)).trans rfl
@[simp] theorem raise_walk (p : Port) (n : Notice) : (s.raise p n).walk = s.walk :=
  (congrArg State.walk (raise_frame s p n)).trans rfl
@[simp] theorem raise_tickPeriod (p : Port) (n : Notice) : (s.raise p n).tickPeriod = s.tickPeriod :=
  (congrArg State.tickPeriod (raise_frame s p n)).trans rfl
@[simp] theorem raise_store (p : Port) (n : Notice) : (s.raise p n).store = s.store :=
  (congrArg State.store (raise_frame s p n)).trans rfl
@[simp] theorem raise_faultMarks (p : Port) (n : Notice) : (s.raise p n).faultMarks = s.faultMarks :=
  (congrArg State.faultMarks (raise_frame s p n)).trans rfl
@[simp] theorem raise_retired (p : Port) (n : Notice) : (s.raise p n).retired = s.retired :=
  (congrArg State.retired (raise_frame s p n)).trans rfl
@[simp] theorem raise_formatRetired (p : Port) (n : Notice) : (s.raise p n).formatRetired = s.formatRetired :=
  (congrArg State.formatRetired (raise_frame s p n)).trans rfl
@[simp] theorem raise_freeList (p : Port) (n : Notice) : (s.raise p n).freeList = s.freeList :=
  (congrArg State.freeList (raise_frame s p n)).trans rfl
@[simp] theorem raise_messages (p : Port) (n : Notice) : (s.raise p n).messages = s.messages :=
  (congrArg State.messages (raise_frame s p n)).trans rfl
@[simp] theorem raise_parityErrors (p : Port) (n : Notice) : (s.raise p n).parityErrors = s.parityErrors :=
  (congrArg State.parityErrors (raise_frame s p n)).trans rfl
@[simp] theorem raise_queues (p : Port) (n : Notice) : (s.raise p n).queues = s.queues :=
  (congrArg State.queues (raise_frame s p n)).trans rfl
@[simp] theorem raise_ports (p : Port) (n : Notice) : (s.raise p n).ports = s.ports :=
  (congrArg State.ports (raise_frame s p n)).trans rfl
@[simp] theorem raise_holdings (p : Port) (n : Notice) : (s.raise p n).holdings = s.holdings :=
  (congrArg State.holdings (raise_frame s p n)).trans rfl
@[simp] theorem raise_lastGranted (p : Port) (n : Notice) : (s.raise p n).lastGranted = s.lastGranted :=
  (congrArg State.lastGranted (raise_frame s p n)).trans rfl
@[simp] theorem raise_tick (p : Port) (n : Notice) : (s.raise p n).tick = s.tick :=
  (congrArg State.tick (raise_frame s p n)).trans rfl
@[simp] theorem raise_timeouts (p : Port) (n : Notice) : (s.raise p n).timeouts = s.timeouts :=
  (congrArg State.timeouts (raise_frame s p n)).trans rfl
@[simp] theorem raise_jobs (p : Port) (n : Notice) : (s.raise p n).jobs = s.jobs :=
  (congrArg State.jobs (raise_frame s p n)).trans rfl
@[simp] theorem raise_capture (p : Port) (n : Notice) : (s.raise p n).capture = s.capture :=
  (congrArg State.capture (raise_frame s p n)).trans rfl
@[simp] theorem raise_correctable (p : Port) (n : Notice) : (s.raise p n).correctable = s.correctable :=
  (congrArg State.correctable (raise_frame s p n)).trans rfl
@[simp] theorem raise_uncorrectable (p : Port) (n : Notice) : (s.raise p n).uncorrectable = s.uncorrectable :=
  (congrArg State.uncorrectable (raise_frame s p n)).trans rfl
@[simp] theorem raise_overflow (p : Port) (n : Notice) : (s.raise p n).overflow = s.overflow :=
  (congrArg State.overflow (raise_frame s p n)).trans rfl
@[simp] theorem raise_interfaces (p : Port) (n : Notice) : (s.raise p n).interfaces = s.interfaces :=
  (congrArg State.interfaces (raise_frame s p n)).trans rfl
@[simp] theorem raise_queue (p : Port) (n : Notice) (r : QueueNo) : (s.raise p n).queue r = s.queue r :=
  (congrArg (fun t => State.queue t r) (raise_frame s p n)).trans rfl
@[simp] theorem raise_port (p : Port) (n : Notice) (r : Port) : (s.raise p n).port r = s.port r :=
  (congrArg (fun t => State.port t r) (raise_frame s p n)).trans rfl
@[simp] theorem raise_interface (p : Port) (n : Notice) (r : Port) : (s.raise p n).interface r = s.interface r :=
  (congrArg (fun t => State.interface t r) (raise_frame s p n)).trans rfl
@[simp] theorem raise_slot (p : Port) (n : Notice) (r : Port) (j : SlotNo) : (s.raise p n).slot r j = s.slot r j :=
  (congrArg (fun t => State.slot t r j) (raise_frame s p n)).trans rfl
@[simp] theorem raise_message (p : Port) (n : Notice) (k : CellNo) : (s.raise p n).message k = s.message k :=
  (congrArg (fun t => State.message t k) (raise_frame s p n)).trans rfl

/-! ## raiseSystem -/

theorem raiseSystem_frame (p : Port) (kd : NoticeKind) (x : BitVec 6) (g : Reasons) :
    s.raiseSystem p kd x g =
      { s with
        notices := (s.raiseSystem p kd x g).notices } := raise_frame s p _

/-! ## raiseToAdmins -/

theorem raiseToAdmins_frame (f : Port → Bool) (kd : NoticeKind) (x : BitVec 6) (g : Reasons) :
    s.raiseToAdmins f kd x g =
      { s with
        notices := (s.raiseToAdmins f kd x g).notices } := by
  unfold raiseToAdmins
  generalize Port.all = l
  induction l generalizing s with
  | nil => rfl
  | cons a l ih =>
    rw [List.foldl_cons, ih]
    split
    · rw [raiseSystem_frame]
    · rfl

@[simp] theorem raiseToAdmins_pending (f : Port → Bool) (kd : NoticeKind) (x : BitVec 6) (g : Reasons) : (s.raiseToAdmins f kd x g).pending = s.pending :=
  (congrArg State.pending (raiseToAdmins_frame s f kd x g)).trans rfl
@[simp] theorem raiseToAdmins_device (f : Port → Bool) (kd : NoticeKind) (x : BitVec 6) (g : Reasons) : (s.raiseToAdmins f kd x g).device = s.device :=
  (congrArg State.device (raiseToAdmins_frame s f kd x g)).trans rfl
@[simp] theorem raiseToAdmins_deviceLine (f : Port → Bool) (kd : NoticeKind) (x : BitVec 6) (g : Reasons) : (s.raiseToAdmins f kd x g).deviceLine = s.deviceLine :=
  (congrArg State.deviceLine (raiseToAdmins_frame s f kd x g)).trans rfl
@[simp] theorem raiseToAdmins_walk (f : Port → Bool) (kd : NoticeKind) (x : BitVec 6) (g : Reasons) : (s.raiseToAdmins f kd x g).walk = s.walk :=
  (congrArg State.walk (raiseToAdmins_frame s f kd x g)).trans rfl
@[simp] theorem raiseToAdmins_tickPeriod (f : Port → Bool) (kd : NoticeKind) (x : BitVec 6) (g : Reasons) : (s.raiseToAdmins f kd x g).tickPeriod = s.tickPeriod :=
  (congrArg State.tickPeriod (raiseToAdmins_frame s f kd x g)).trans rfl
@[simp] theorem raiseToAdmins_store (f : Port → Bool) (kd : NoticeKind) (x : BitVec 6) (g : Reasons) : (s.raiseToAdmins f kd x g).store = s.store :=
  (congrArg State.store (raiseToAdmins_frame s f kd x g)).trans rfl
@[simp] theorem raiseToAdmins_faultMarks (f : Port → Bool) (kd : NoticeKind) (x : BitVec 6) (g : Reasons) : (s.raiseToAdmins f kd x g).faultMarks = s.faultMarks :=
  (congrArg State.faultMarks (raiseToAdmins_frame s f kd x g)).trans rfl
@[simp] theorem raiseToAdmins_retired (f : Port → Bool) (kd : NoticeKind) (x : BitVec 6) (g : Reasons) : (s.raiseToAdmins f kd x g).retired = s.retired :=
  (congrArg State.retired (raiseToAdmins_frame s f kd x g)).trans rfl
@[simp] theorem raiseToAdmins_formatRetired (f : Port → Bool) (kd : NoticeKind) (x : BitVec 6) (g : Reasons) : (s.raiseToAdmins f kd x g).formatRetired = s.formatRetired :=
  (congrArg State.formatRetired (raiseToAdmins_frame s f kd x g)).trans rfl
@[simp] theorem raiseToAdmins_freeList (f : Port → Bool) (kd : NoticeKind) (x : BitVec 6) (g : Reasons) : (s.raiseToAdmins f kd x g).freeList = s.freeList :=
  (congrArg State.freeList (raiseToAdmins_frame s f kd x g)).trans rfl
@[simp] theorem raiseToAdmins_messages (f : Port → Bool) (kd : NoticeKind) (x : BitVec 6) (g : Reasons) : (s.raiseToAdmins f kd x g).messages = s.messages :=
  (congrArg State.messages (raiseToAdmins_frame s f kd x g)).trans rfl
@[simp] theorem raiseToAdmins_parityErrors (f : Port → Bool) (kd : NoticeKind) (x : BitVec 6) (g : Reasons) : (s.raiseToAdmins f kd x g).parityErrors = s.parityErrors :=
  (congrArg State.parityErrors (raiseToAdmins_frame s f kd x g)).trans rfl
@[simp] theorem raiseToAdmins_queues (f : Port → Bool) (kd : NoticeKind) (x : BitVec 6) (g : Reasons) : (s.raiseToAdmins f kd x g).queues = s.queues :=
  (congrArg State.queues (raiseToAdmins_frame s f kd x g)).trans rfl
@[simp] theorem raiseToAdmins_ports (f : Port → Bool) (kd : NoticeKind) (x : BitVec 6) (g : Reasons) : (s.raiseToAdmins f kd x g).ports = s.ports :=
  (congrArg State.ports (raiseToAdmins_frame s f kd x g)).trans rfl
@[simp] theorem raiseToAdmins_holdings (f : Port → Bool) (kd : NoticeKind) (x : BitVec 6) (g : Reasons) : (s.raiseToAdmins f kd x g).holdings = s.holdings :=
  (congrArg State.holdings (raiseToAdmins_frame s f kd x g)).trans rfl
@[simp] theorem raiseToAdmins_lastGranted (f : Port → Bool) (kd : NoticeKind) (x : BitVec 6) (g : Reasons) : (s.raiseToAdmins f kd x g).lastGranted = s.lastGranted :=
  (congrArg State.lastGranted (raiseToAdmins_frame s f kd x g)).trans rfl
@[simp] theorem raiseToAdmins_tick (f : Port → Bool) (kd : NoticeKind) (x : BitVec 6) (g : Reasons) : (s.raiseToAdmins f kd x g).tick = s.tick :=
  (congrArg State.tick (raiseToAdmins_frame s f kd x g)).trans rfl
@[simp] theorem raiseToAdmins_timeouts (f : Port → Bool) (kd : NoticeKind) (x : BitVec 6) (g : Reasons) : (s.raiseToAdmins f kd x g).timeouts = s.timeouts :=
  (congrArg State.timeouts (raiseToAdmins_frame s f kd x g)).trans rfl
@[simp] theorem raiseToAdmins_jobs (f : Port → Bool) (kd : NoticeKind) (x : BitVec 6) (g : Reasons) : (s.raiseToAdmins f kd x g).jobs = s.jobs :=
  (congrArg State.jobs (raiseToAdmins_frame s f kd x g)).trans rfl
@[simp] theorem raiseToAdmins_capture (f : Port → Bool) (kd : NoticeKind) (x : BitVec 6) (g : Reasons) : (s.raiseToAdmins f kd x g).capture = s.capture :=
  (congrArg State.capture (raiseToAdmins_frame s f kd x g)).trans rfl
@[simp] theorem raiseToAdmins_correctable (f : Port → Bool) (kd : NoticeKind) (x : BitVec 6) (g : Reasons) : (s.raiseToAdmins f kd x g).correctable = s.correctable :=
  (congrArg State.correctable (raiseToAdmins_frame s f kd x g)).trans rfl
@[simp] theorem raiseToAdmins_uncorrectable (f : Port → Bool) (kd : NoticeKind) (x : BitVec 6) (g : Reasons) : (s.raiseToAdmins f kd x g).uncorrectable = s.uncorrectable :=
  (congrArg State.uncorrectable (raiseToAdmins_frame s f kd x g)).trans rfl
@[simp] theorem raiseToAdmins_overflow (f : Port → Bool) (kd : NoticeKind) (x : BitVec 6) (g : Reasons) : (s.raiseToAdmins f kd x g).overflow = s.overflow :=
  (congrArg State.overflow (raiseToAdmins_frame s f kd x g)).trans rfl
@[simp] theorem raiseToAdmins_interfaces (f : Port → Bool) (kd : NoticeKind) (x : BitVec 6) (g : Reasons) : (s.raiseToAdmins f kd x g).interfaces = s.interfaces :=
  (congrArg State.interfaces (raiseToAdmins_frame s f kd x g)).trans rfl
@[simp] theorem raiseToAdmins_queue (f : Port → Bool) (kd : NoticeKind) (x : BitVec 6) (g : Reasons) (r : QueueNo) : (s.raiseToAdmins f kd x g).queue r = s.queue r :=
  (congrArg (fun t => State.queue t r) (raiseToAdmins_frame s f kd x g)).trans rfl
@[simp] theorem raiseToAdmins_port (f : Port → Bool) (kd : NoticeKind) (x : BitVec 6) (g : Reasons) (r : Port) : (s.raiseToAdmins f kd x g).port r = s.port r :=
  (congrArg (fun t => State.port t r) (raiseToAdmins_frame s f kd x g)).trans rfl
@[simp] theorem raiseToAdmins_interface (f : Port → Bool) (kd : NoticeKind) (x : BitVec 6) (g : Reasons) (r : Port) : (s.raiseToAdmins f kd x g).interface r = s.interface r :=
  (congrArg (fun t => State.interface t r) (raiseToAdmins_frame s f kd x g)).trans rfl
@[simp] theorem raiseToAdmins_slot (f : Port → Bool) (kd : NoticeKind) (x : BitVec 6) (g : Reasons) (r : Port) (j : SlotNo) : (s.raiseToAdmins f kd x g).slot r j = s.slot r j :=
  (congrArg (fun t => State.slot t r j) (raiseToAdmins_frame s f kd x g)).trans rfl
@[simp] theorem raiseToAdmins_message (f : Port → Bool) (kd : NoticeKind) (x : BitVec 6) (g : Reasons) (k : CellNo) : (s.raiseToAdmins f kd x g).message k = s.message k :=
  (congrArg (fun t => State.message t k) (raiseToAdmins_frame s f kd x g)).trans rfl

/-! ## raisePortEvent -/

theorem raisePortEvent_frame (p : Port) (g : Reasons) :
    s.raisePortEvent p g =
      { s with
        notices := (s.raisePortEvent p g).notices } := raiseToAdmins_frame s _ _ _ _

@[simp] theorem raisePortEvent_pending (p : Port) (g : Reasons) : (s.raisePortEvent p g).pending = s.pending :=
  (congrArg State.pending (raisePortEvent_frame s p g)).trans rfl
@[simp] theorem raisePortEvent_device (p : Port) (g : Reasons) : (s.raisePortEvent p g).device = s.device :=
  (congrArg State.device (raisePortEvent_frame s p g)).trans rfl
@[simp] theorem raisePortEvent_deviceLine (p : Port) (g : Reasons) : (s.raisePortEvent p g).deviceLine = s.deviceLine :=
  (congrArg State.deviceLine (raisePortEvent_frame s p g)).trans rfl
@[simp] theorem raisePortEvent_walk (p : Port) (g : Reasons) : (s.raisePortEvent p g).walk = s.walk :=
  (congrArg State.walk (raisePortEvent_frame s p g)).trans rfl
@[simp] theorem raisePortEvent_tickPeriod (p : Port) (g : Reasons) : (s.raisePortEvent p g).tickPeriod = s.tickPeriod :=
  (congrArg State.tickPeriod (raisePortEvent_frame s p g)).trans rfl
@[simp] theorem raisePortEvent_store (p : Port) (g : Reasons) : (s.raisePortEvent p g).store = s.store :=
  (congrArg State.store (raisePortEvent_frame s p g)).trans rfl
@[simp] theorem raisePortEvent_faultMarks (p : Port) (g : Reasons) : (s.raisePortEvent p g).faultMarks = s.faultMarks :=
  (congrArg State.faultMarks (raisePortEvent_frame s p g)).trans rfl
@[simp] theorem raisePortEvent_retired (p : Port) (g : Reasons) : (s.raisePortEvent p g).retired = s.retired :=
  (congrArg State.retired (raisePortEvent_frame s p g)).trans rfl
@[simp] theorem raisePortEvent_formatRetired (p : Port) (g : Reasons) : (s.raisePortEvent p g).formatRetired = s.formatRetired :=
  (congrArg State.formatRetired (raisePortEvent_frame s p g)).trans rfl
@[simp] theorem raisePortEvent_freeList (p : Port) (g : Reasons) : (s.raisePortEvent p g).freeList = s.freeList :=
  (congrArg State.freeList (raisePortEvent_frame s p g)).trans rfl
@[simp] theorem raisePortEvent_messages (p : Port) (g : Reasons) : (s.raisePortEvent p g).messages = s.messages :=
  (congrArg State.messages (raisePortEvent_frame s p g)).trans rfl
@[simp] theorem raisePortEvent_parityErrors (p : Port) (g : Reasons) : (s.raisePortEvent p g).parityErrors = s.parityErrors :=
  (congrArg State.parityErrors (raisePortEvent_frame s p g)).trans rfl
@[simp] theorem raisePortEvent_queues (p : Port) (g : Reasons) : (s.raisePortEvent p g).queues = s.queues :=
  (congrArg State.queues (raisePortEvent_frame s p g)).trans rfl
@[simp] theorem raisePortEvent_ports (p : Port) (g : Reasons) : (s.raisePortEvent p g).ports = s.ports :=
  (congrArg State.ports (raisePortEvent_frame s p g)).trans rfl
@[simp] theorem raisePortEvent_holdings (p : Port) (g : Reasons) : (s.raisePortEvent p g).holdings = s.holdings :=
  (congrArg State.holdings (raisePortEvent_frame s p g)).trans rfl
@[simp] theorem raisePortEvent_lastGranted (p : Port) (g : Reasons) : (s.raisePortEvent p g).lastGranted = s.lastGranted :=
  (congrArg State.lastGranted (raisePortEvent_frame s p g)).trans rfl
@[simp] theorem raisePortEvent_tick (p : Port) (g : Reasons) : (s.raisePortEvent p g).tick = s.tick :=
  (congrArg State.tick (raisePortEvent_frame s p g)).trans rfl
@[simp] theorem raisePortEvent_timeouts (p : Port) (g : Reasons) : (s.raisePortEvent p g).timeouts = s.timeouts :=
  (congrArg State.timeouts (raisePortEvent_frame s p g)).trans rfl
@[simp] theorem raisePortEvent_jobs (p : Port) (g : Reasons) : (s.raisePortEvent p g).jobs = s.jobs :=
  (congrArg State.jobs (raisePortEvent_frame s p g)).trans rfl
@[simp] theorem raisePortEvent_capture (p : Port) (g : Reasons) : (s.raisePortEvent p g).capture = s.capture :=
  (congrArg State.capture (raisePortEvent_frame s p g)).trans rfl
@[simp] theorem raisePortEvent_correctable (p : Port) (g : Reasons) : (s.raisePortEvent p g).correctable = s.correctable :=
  (congrArg State.correctable (raisePortEvent_frame s p g)).trans rfl
@[simp] theorem raisePortEvent_uncorrectable (p : Port) (g : Reasons) : (s.raisePortEvent p g).uncorrectable = s.uncorrectable :=
  (congrArg State.uncorrectable (raisePortEvent_frame s p g)).trans rfl
@[simp] theorem raisePortEvent_overflow (p : Port) (g : Reasons) : (s.raisePortEvent p g).overflow = s.overflow :=
  (congrArg State.overflow (raisePortEvent_frame s p g)).trans rfl
@[simp] theorem raisePortEvent_interfaces (p : Port) (g : Reasons) : (s.raisePortEvent p g).interfaces = s.interfaces :=
  (congrArg State.interfaces (raisePortEvent_frame s p g)).trans rfl
@[simp] theorem raisePortEvent_queue (p : Port) (g : Reasons) (r : QueueNo) : (s.raisePortEvent p g).queue r = s.queue r :=
  (congrArg (fun t => State.queue t r) (raisePortEvent_frame s p g)).trans rfl
@[simp] theorem raisePortEvent_port (p : Port) (g : Reasons) (r : Port) : (s.raisePortEvent p g).port r = s.port r :=
  (congrArg (fun t => State.port t r) (raisePortEvent_frame s p g)).trans rfl
@[simp] theorem raisePortEvent_interface (p : Port) (g : Reasons) (r : Port) : (s.raisePortEvent p g).interface r = s.interface r :=
  (congrArg (fun t => State.interface t r) (raisePortEvent_frame s p g)).trans rfl
@[simp] theorem raisePortEvent_slot (p : Port) (g : Reasons) (r : Port) (j : SlotNo) : (s.raisePortEvent p g).slot r j = s.slot r j :=
  (congrArg (fun t => State.slot t r j) (raisePortEvent_frame s p g)).trans rfl
@[simp] theorem raisePortEvent_message (p : Port) (g : Reasons) (k : CellNo) : (s.raisePortEvent p g).message k = s.message k :=
  (congrArg (fun t => State.message t k) (raisePortEvent_frame s p g)).trans rfl

/-! ## raiseQueue -/

theorem raiseQueue_frame (q : QueueNo) (g : Reasons) :
    s.raiseQueue q g =
      { s with
        notices := (s.raiseQueue q g).notices } := by
  unfold raiseQueue
  dsimp only
  split
  · rfl
  · split
    · rfl
    · exact raise_frame s _ _

@[simp] theorem raiseQueue_pending (q : QueueNo) (g : Reasons) : (s.raiseQueue q g).pending = s.pending :=
  (congrArg State.pending (raiseQueue_frame s q g)).trans rfl
@[simp] theorem raiseQueue_device (q : QueueNo) (g : Reasons) : (s.raiseQueue q g).device = s.device :=
  (congrArg State.device (raiseQueue_frame s q g)).trans rfl
@[simp] theorem raiseQueue_deviceLine (q : QueueNo) (g : Reasons) : (s.raiseQueue q g).deviceLine = s.deviceLine :=
  (congrArg State.deviceLine (raiseQueue_frame s q g)).trans rfl
@[simp] theorem raiseQueue_walk (q : QueueNo) (g : Reasons) : (s.raiseQueue q g).walk = s.walk :=
  (congrArg State.walk (raiseQueue_frame s q g)).trans rfl
@[simp] theorem raiseQueue_tickPeriod (q : QueueNo) (g : Reasons) : (s.raiseQueue q g).tickPeriod = s.tickPeriod :=
  (congrArg State.tickPeriod (raiseQueue_frame s q g)).trans rfl
@[simp] theorem raiseQueue_store (q : QueueNo) (g : Reasons) : (s.raiseQueue q g).store = s.store :=
  (congrArg State.store (raiseQueue_frame s q g)).trans rfl
@[simp] theorem raiseQueue_faultMarks (q : QueueNo) (g : Reasons) : (s.raiseQueue q g).faultMarks = s.faultMarks :=
  (congrArg State.faultMarks (raiseQueue_frame s q g)).trans rfl
@[simp] theorem raiseQueue_retired (q : QueueNo) (g : Reasons) : (s.raiseQueue q g).retired = s.retired :=
  (congrArg State.retired (raiseQueue_frame s q g)).trans rfl
@[simp] theorem raiseQueue_formatRetired (q : QueueNo) (g : Reasons) : (s.raiseQueue q g).formatRetired = s.formatRetired :=
  (congrArg State.formatRetired (raiseQueue_frame s q g)).trans rfl
@[simp] theorem raiseQueue_freeList (q : QueueNo) (g : Reasons) : (s.raiseQueue q g).freeList = s.freeList :=
  (congrArg State.freeList (raiseQueue_frame s q g)).trans rfl
@[simp] theorem raiseQueue_messages (q : QueueNo) (g : Reasons) : (s.raiseQueue q g).messages = s.messages :=
  (congrArg State.messages (raiseQueue_frame s q g)).trans rfl
@[simp] theorem raiseQueue_parityErrors (q : QueueNo) (g : Reasons) : (s.raiseQueue q g).parityErrors = s.parityErrors :=
  (congrArg State.parityErrors (raiseQueue_frame s q g)).trans rfl
@[simp] theorem raiseQueue_queues (q : QueueNo) (g : Reasons) : (s.raiseQueue q g).queues = s.queues :=
  (congrArg State.queues (raiseQueue_frame s q g)).trans rfl
@[simp] theorem raiseQueue_ports (q : QueueNo) (g : Reasons) : (s.raiseQueue q g).ports = s.ports :=
  (congrArg State.ports (raiseQueue_frame s q g)).trans rfl
@[simp] theorem raiseQueue_holdings (q : QueueNo) (g : Reasons) : (s.raiseQueue q g).holdings = s.holdings :=
  (congrArg State.holdings (raiseQueue_frame s q g)).trans rfl
@[simp] theorem raiseQueue_lastGranted (q : QueueNo) (g : Reasons) : (s.raiseQueue q g).lastGranted = s.lastGranted :=
  (congrArg State.lastGranted (raiseQueue_frame s q g)).trans rfl
@[simp] theorem raiseQueue_tick (q : QueueNo) (g : Reasons) : (s.raiseQueue q g).tick = s.tick :=
  (congrArg State.tick (raiseQueue_frame s q g)).trans rfl
@[simp] theorem raiseQueue_timeouts (q : QueueNo) (g : Reasons) : (s.raiseQueue q g).timeouts = s.timeouts :=
  (congrArg State.timeouts (raiseQueue_frame s q g)).trans rfl
@[simp] theorem raiseQueue_jobs (q : QueueNo) (g : Reasons) : (s.raiseQueue q g).jobs = s.jobs :=
  (congrArg State.jobs (raiseQueue_frame s q g)).trans rfl
@[simp] theorem raiseQueue_capture (q : QueueNo) (g : Reasons) : (s.raiseQueue q g).capture = s.capture :=
  (congrArg State.capture (raiseQueue_frame s q g)).trans rfl
@[simp] theorem raiseQueue_correctable (q : QueueNo) (g : Reasons) : (s.raiseQueue q g).correctable = s.correctable :=
  (congrArg State.correctable (raiseQueue_frame s q g)).trans rfl
@[simp] theorem raiseQueue_uncorrectable (q : QueueNo) (g : Reasons) : (s.raiseQueue q g).uncorrectable = s.uncorrectable :=
  (congrArg State.uncorrectable (raiseQueue_frame s q g)).trans rfl
@[simp] theorem raiseQueue_overflow (q : QueueNo) (g : Reasons) : (s.raiseQueue q g).overflow = s.overflow :=
  (congrArg State.overflow (raiseQueue_frame s q g)).trans rfl
@[simp] theorem raiseQueue_interfaces (q : QueueNo) (g : Reasons) : (s.raiseQueue q g).interfaces = s.interfaces :=
  (congrArg State.interfaces (raiseQueue_frame s q g)).trans rfl
@[simp] theorem raiseQueue_queue (q : QueueNo) (g : Reasons) (r : QueueNo) : (s.raiseQueue q g).queue r = s.queue r :=
  (congrArg (fun t => State.queue t r) (raiseQueue_frame s q g)).trans rfl
@[simp] theorem raiseQueue_port (q : QueueNo) (g : Reasons) (r : Port) : (s.raiseQueue q g).port r = s.port r :=
  (congrArg (fun t => State.port t r) (raiseQueue_frame s q g)).trans rfl
@[simp] theorem raiseQueue_interface (q : QueueNo) (g : Reasons) (r : Port) : (s.raiseQueue q g).interface r = s.interface r :=
  (congrArg (fun t => State.interface t r) (raiseQueue_frame s q g)).trans rfl
@[simp] theorem raiseQueue_slot (q : QueueNo) (g : Reasons) (r : Port) (j : SlotNo) : (s.raiseQueue q g).slot r j = s.slot r j :=
  (congrArg (fun t => State.slot t r j) (raiseQueue_frame s q g)).trans rfl
@[simp] theorem raiseQueue_message (q : QueueNo) (g : Reasons) (k : CellNo) : (s.raiseQueue q g).message k = s.message k :=
  (congrArg (fun t => State.message t k) (raiseQueue_frame s q g)).trans rfl

/-! ## withdrawFrom -/

theorem withdrawFrom_frame (t : Option Port) (q : QueueNo) :
    s.withdrawFrom t q =
      { s with
        notices := (s.withdrawFrom t q).notices } := by
  unfold withdrawFrom; split <;> rfl

@[simp] theorem withdrawFrom_pending (t : Option Port) (q : QueueNo) : (s.withdrawFrom t q).pending = s.pending :=
  (congrArg State.pending (withdrawFrom_frame s t q)).trans rfl
@[simp] theorem withdrawFrom_device (t : Option Port) (q : QueueNo) : (s.withdrawFrom t q).device = s.device :=
  (congrArg State.device (withdrawFrom_frame s t q)).trans rfl
@[simp] theorem withdrawFrom_deviceLine (t : Option Port) (q : QueueNo) : (s.withdrawFrom t q).deviceLine = s.deviceLine :=
  (congrArg State.deviceLine (withdrawFrom_frame s t q)).trans rfl
@[simp] theorem withdrawFrom_walk (t : Option Port) (q : QueueNo) : (s.withdrawFrom t q).walk = s.walk :=
  (congrArg State.walk (withdrawFrom_frame s t q)).trans rfl
@[simp] theorem withdrawFrom_tickPeriod (t : Option Port) (q : QueueNo) : (s.withdrawFrom t q).tickPeriod = s.tickPeriod :=
  (congrArg State.tickPeriod (withdrawFrom_frame s t q)).trans rfl
@[simp] theorem withdrawFrom_store (t : Option Port) (q : QueueNo) : (s.withdrawFrom t q).store = s.store :=
  (congrArg State.store (withdrawFrom_frame s t q)).trans rfl
@[simp] theorem withdrawFrom_faultMarks (t : Option Port) (q : QueueNo) : (s.withdrawFrom t q).faultMarks = s.faultMarks :=
  (congrArg State.faultMarks (withdrawFrom_frame s t q)).trans rfl
@[simp] theorem withdrawFrom_retired (t : Option Port) (q : QueueNo) : (s.withdrawFrom t q).retired = s.retired :=
  (congrArg State.retired (withdrawFrom_frame s t q)).trans rfl
@[simp] theorem withdrawFrom_formatRetired (t : Option Port) (q : QueueNo) : (s.withdrawFrom t q).formatRetired = s.formatRetired :=
  (congrArg State.formatRetired (withdrawFrom_frame s t q)).trans rfl
@[simp] theorem withdrawFrom_freeList (t : Option Port) (q : QueueNo) : (s.withdrawFrom t q).freeList = s.freeList :=
  (congrArg State.freeList (withdrawFrom_frame s t q)).trans rfl
@[simp] theorem withdrawFrom_messages (t : Option Port) (q : QueueNo) : (s.withdrawFrom t q).messages = s.messages :=
  (congrArg State.messages (withdrawFrom_frame s t q)).trans rfl
@[simp] theorem withdrawFrom_parityErrors (t : Option Port) (q : QueueNo) : (s.withdrawFrom t q).parityErrors = s.parityErrors :=
  (congrArg State.parityErrors (withdrawFrom_frame s t q)).trans rfl
@[simp] theorem withdrawFrom_queues (t : Option Port) (q : QueueNo) : (s.withdrawFrom t q).queues = s.queues :=
  (congrArg State.queues (withdrawFrom_frame s t q)).trans rfl
@[simp] theorem withdrawFrom_ports (t : Option Port) (q : QueueNo) : (s.withdrawFrom t q).ports = s.ports :=
  (congrArg State.ports (withdrawFrom_frame s t q)).trans rfl
@[simp] theorem withdrawFrom_holdings (t : Option Port) (q : QueueNo) : (s.withdrawFrom t q).holdings = s.holdings :=
  (congrArg State.holdings (withdrawFrom_frame s t q)).trans rfl
@[simp] theorem withdrawFrom_lastGranted (t : Option Port) (q : QueueNo) : (s.withdrawFrom t q).lastGranted = s.lastGranted :=
  (congrArg State.lastGranted (withdrawFrom_frame s t q)).trans rfl
@[simp] theorem withdrawFrom_tick (t : Option Port) (q : QueueNo) : (s.withdrawFrom t q).tick = s.tick :=
  (congrArg State.tick (withdrawFrom_frame s t q)).trans rfl
@[simp] theorem withdrawFrom_timeouts (t : Option Port) (q : QueueNo) : (s.withdrawFrom t q).timeouts = s.timeouts :=
  (congrArg State.timeouts (withdrawFrom_frame s t q)).trans rfl
@[simp] theorem withdrawFrom_jobs (t : Option Port) (q : QueueNo) : (s.withdrawFrom t q).jobs = s.jobs :=
  (congrArg State.jobs (withdrawFrom_frame s t q)).trans rfl
@[simp] theorem withdrawFrom_capture (t : Option Port) (q : QueueNo) : (s.withdrawFrom t q).capture = s.capture :=
  (congrArg State.capture (withdrawFrom_frame s t q)).trans rfl
@[simp] theorem withdrawFrom_correctable (t : Option Port) (q : QueueNo) : (s.withdrawFrom t q).correctable = s.correctable :=
  (congrArg State.correctable (withdrawFrom_frame s t q)).trans rfl
@[simp] theorem withdrawFrom_uncorrectable (t : Option Port) (q : QueueNo) : (s.withdrawFrom t q).uncorrectable = s.uncorrectable :=
  (congrArg State.uncorrectable (withdrawFrom_frame s t q)).trans rfl
@[simp] theorem withdrawFrom_overflow (t : Option Port) (q : QueueNo) : (s.withdrawFrom t q).overflow = s.overflow :=
  (congrArg State.overflow (withdrawFrom_frame s t q)).trans rfl
@[simp] theorem withdrawFrom_interfaces (t : Option Port) (q : QueueNo) : (s.withdrawFrom t q).interfaces = s.interfaces :=
  (congrArg State.interfaces (withdrawFrom_frame s t q)).trans rfl
@[simp] theorem withdrawFrom_queue (t : Option Port) (q : QueueNo) (r : QueueNo) : (s.withdrawFrom t q).queue r = s.queue r :=
  (congrArg (fun t => State.queue t r) (withdrawFrom_frame s t q)).trans rfl
@[simp] theorem withdrawFrom_port (t : Option Port) (q : QueueNo) (r : Port) : (s.withdrawFrom t q).port r = s.port r :=
  (congrArg (fun t => State.port t r) (withdrawFrom_frame s t q)).trans rfl
@[simp] theorem withdrawFrom_interface (t : Option Port) (q : QueueNo) (r : Port) : (s.withdrawFrom t q).interface r = s.interface r :=
  (congrArg (fun t => State.interface t r) (withdrawFrom_frame s t q)).trans rfl
@[simp] theorem withdrawFrom_slot (t : Option Port) (q : QueueNo) (r : Port) (j : SlotNo) : (s.withdrawFrom t q).slot r j = s.slot r j :=
  (congrArg (fun t => State.slot t r j) (withdrawFrom_frame s t q)).trans rfl
@[simp] theorem withdrawFrom_message (t : Option Port) (q : QueueNo) (k : CellNo) : (s.withdrawFrom t q).message k = s.message k :=
  (congrArg (fun t => State.message t k) (withdrawFrom_frame s t q)).trans rfl

/-! ## changeList -/

theorem changeList_frame (q : QueueNo) (l : List CellNo) :
    s.changeList q l =
      { s with
        queues := (s.changeList q l).queues
        notices := (s.changeList q l).notices } := by
  unfold changeList
  dsimp only
  split
  · rw [raiseQueue_frame]; rfl
  · rfl

@[simp] theorem changeList_pending (q : QueueNo) (l : List CellNo) : (s.changeList q l).pending = s.pending :=
  (congrArg State.pending (changeList_frame s q l)).trans rfl
@[simp] theorem changeList_device (q : QueueNo) (l : List CellNo) : (s.changeList q l).device = s.device :=
  (congrArg State.device (changeList_frame s q l)).trans rfl
@[simp] theorem changeList_deviceLine (q : QueueNo) (l : List CellNo) : (s.changeList q l).deviceLine = s.deviceLine :=
  (congrArg State.deviceLine (changeList_frame s q l)).trans rfl
@[simp] theorem changeList_walk (q : QueueNo) (l : List CellNo) : (s.changeList q l).walk = s.walk :=
  (congrArg State.walk (changeList_frame s q l)).trans rfl
@[simp] theorem changeList_tickPeriod (q : QueueNo) (l : List CellNo) : (s.changeList q l).tickPeriod = s.tickPeriod :=
  (congrArg State.tickPeriod (changeList_frame s q l)).trans rfl
@[simp] theorem changeList_store (q : QueueNo) (l : List CellNo) : (s.changeList q l).store = s.store :=
  (congrArg State.store (changeList_frame s q l)).trans rfl
@[simp] theorem changeList_faultMarks (q : QueueNo) (l : List CellNo) : (s.changeList q l).faultMarks = s.faultMarks :=
  (congrArg State.faultMarks (changeList_frame s q l)).trans rfl
@[simp] theorem changeList_retired (q : QueueNo) (l : List CellNo) : (s.changeList q l).retired = s.retired :=
  (congrArg State.retired (changeList_frame s q l)).trans rfl
@[simp] theorem changeList_formatRetired (q : QueueNo) (l : List CellNo) : (s.changeList q l).formatRetired = s.formatRetired :=
  (congrArg State.formatRetired (changeList_frame s q l)).trans rfl
@[simp] theorem changeList_freeList (q : QueueNo) (l : List CellNo) : (s.changeList q l).freeList = s.freeList :=
  (congrArg State.freeList (changeList_frame s q l)).trans rfl
@[simp] theorem changeList_messages (q : QueueNo) (l : List CellNo) : (s.changeList q l).messages = s.messages :=
  (congrArg State.messages (changeList_frame s q l)).trans rfl
@[simp] theorem changeList_parityErrors (q : QueueNo) (l : List CellNo) : (s.changeList q l).parityErrors = s.parityErrors :=
  (congrArg State.parityErrors (changeList_frame s q l)).trans rfl
@[simp] theorem changeList_ports (q : QueueNo) (l : List CellNo) : (s.changeList q l).ports = s.ports :=
  (congrArg State.ports (changeList_frame s q l)).trans rfl
@[simp] theorem changeList_holdings (q : QueueNo) (l : List CellNo) : (s.changeList q l).holdings = s.holdings :=
  (congrArg State.holdings (changeList_frame s q l)).trans rfl
@[simp] theorem changeList_lastGranted (q : QueueNo) (l : List CellNo) : (s.changeList q l).lastGranted = s.lastGranted :=
  (congrArg State.lastGranted (changeList_frame s q l)).trans rfl
@[simp] theorem changeList_tick (q : QueueNo) (l : List CellNo) : (s.changeList q l).tick = s.tick :=
  (congrArg State.tick (changeList_frame s q l)).trans rfl
@[simp] theorem changeList_timeouts (q : QueueNo) (l : List CellNo) : (s.changeList q l).timeouts = s.timeouts :=
  (congrArg State.timeouts (changeList_frame s q l)).trans rfl
@[simp] theorem changeList_jobs (q : QueueNo) (l : List CellNo) : (s.changeList q l).jobs = s.jobs :=
  (congrArg State.jobs (changeList_frame s q l)).trans rfl
@[simp] theorem changeList_capture (q : QueueNo) (l : List CellNo) : (s.changeList q l).capture = s.capture :=
  (congrArg State.capture (changeList_frame s q l)).trans rfl
@[simp] theorem changeList_correctable (q : QueueNo) (l : List CellNo) : (s.changeList q l).correctable = s.correctable :=
  (congrArg State.correctable (changeList_frame s q l)).trans rfl
@[simp] theorem changeList_uncorrectable (q : QueueNo) (l : List CellNo) : (s.changeList q l).uncorrectable = s.uncorrectable :=
  (congrArg State.uncorrectable (changeList_frame s q l)).trans rfl
@[simp] theorem changeList_overflow (q : QueueNo) (l : List CellNo) : (s.changeList q l).overflow = s.overflow :=
  (congrArg State.overflow (changeList_frame s q l)).trans rfl
@[simp] theorem changeList_interfaces (q : QueueNo) (l : List CellNo) : (s.changeList q l).interfaces = s.interfaces :=
  (congrArg State.interfaces (changeList_frame s q l)).trans rfl
@[simp] theorem changeList_port (q : QueueNo) (l : List CellNo) (r : Port) : (s.changeList q l).port r = s.port r :=
  (congrArg (fun t => State.port t r) (changeList_frame s q l)).trans rfl
@[simp] theorem changeList_interface (q : QueueNo) (l : List CellNo) (r : Port) : (s.changeList q l).interface r = s.interface r :=
  (congrArg (fun t => State.interface t r) (changeList_frame s q l)).trans rfl
@[simp] theorem changeList_slot (q : QueueNo) (l : List CellNo) (r : Port) (j : SlotNo) : (s.changeList q l).slot r j = s.slot r j :=
  (congrArg (fun t => State.slot t r j) (changeList_frame s q l)).trans rfl
@[simp] theorem changeList_message (q : QueueNo) (l : List CellNo) (k : CellNo) : (s.changeList q l).message k = s.message k :=
  (congrArg (fun t => State.message t k) (changeList_frame s q l)).trans rfl

/-! ## link -/

theorem link_frame (q : QueueNo) (e : ListEnd) (m : CellNo) :
    s.link q e m =
      { s with
        queues := (s.link q e m).queues
        notices := (s.link q e m).notices } := by
  cases e <;> exact changeList_frame s q _

@[simp] theorem link_pending (q : QueueNo) (e : ListEnd) (m : CellNo) : (s.link q e m).pending = s.pending :=
  (congrArg State.pending (link_frame s q e m)).trans rfl
@[simp] theorem link_device (q : QueueNo) (e : ListEnd) (m : CellNo) : (s.link q e m).device = s.device :=
  (congrArg State.device (link_frame s q e m)).trans rfl
@[simp] theorem link_deviceLine (q : QueueNo) (e : ListEnd) (m : CellNo) : (s.link q e m).deviceLine = s.deviceLine :=
  (congrArg State.deviceLine (link_frame s q e m)).trans rfl
@[simp] theorem link_walk (q : QueueNo) (e : ListEnd) (m : CellNo) : (s.link q e m).walk = s.walk :=
  (congrArg State.walk (link_frame s q e m)).trans rfl
@[simp] theorem link_tickPeriod (q : QueueNo) (e : ListEnd) (m : CellNo) : (s.link q e m).tickPeriod = s.tickPeriod :=
  (congrArg State.tickPeriod (link_frame s q e m)).trans rfl
@[simp] theorem link_store (q : QueueNo) (e : ListEnd) (m : CellNo) : (s.link q e m).store = s.store :=
  (congrArg State.store (link_frame s q e m)).trans rfl
@[simp] theorem link_faultMarks (q : QueueNo) (e : ListEnd) (m : CellNo) : (s.link q e m).faultMarks = s.faultMarks :=
  (congrArg State.faultMarks (link_frame s q e m)).trans rfl
@[simp] theorem link_retired (q : QueueNo) (e : ListEnd) (m : CellNo) : (s.link q e m).retired = s.retired :=
  (congrArg State.retired (link_frame s q e m)).trans rfl
@[simp] theorem link_formatRetired (q : QueueNo) (e : ListEnd) (m : CellNo) : (s.link q e m).formatRetired = s.formatRetired :=
  (congrArg State.formatRetired (link_frame s q e m)).trans rfl
@[simp] theorem link_freeList (q : QueueNo) (e : ListEnd) (m : CellNo) : (s.link q e m).freeList = s.freeList :=
  (congrArg State.freeList (link_frame s q e m)).trans rfl
@[simp] theorem link_messages (q : QueueNo) (e : ListEnd) (m : CellNo) : (s.link q e m).messages = s.messages :=
  (congrArg State.messages (link_frame s q e m)).trans rfl
@[simp] theorem link_parityErrors (q : QueueNo) (e : ListEnd) (m : CellNo) : (s.link q e m).parityErrors = s.parityErrors :=
  (congrArg State.parityErrors (link_frame s q e m)).trans rfl
@[simp] theorem link_ports (q : QueueNo) (e : ListEnd) (m : CellNo) : (s.link q e m).ports = s.ports :=
  (congrArg State.ports (link_frame s q e m)).trans rfl
@[simp] theorem link_holdings (q : QueueNo) (e : ListEnd) (m : CellNo) : (s.link q e m).holdings = s.holdings :=
  (congrArg State.holdings (link_frame s q e m)).trans rfl
@[simp] theorem link_lastGranted (q : QueueNo) (e : ListEnd) (m : CellNo) : (s.link q e m).lastGranted = s.lastGranted :=
  (congrArg State.lastGranted (link_frame s q e m)).trans rfl
@[simp] theorem link_tick (q : QueueNo) (e : ListEnd) (m : CellNo) : (s.link q e m).tick = s.tick :=
  (congrArg State.tick (link_frame s q e m)).trans rfl
@[simp] theorem link_timeouts (q : QueueNo) (e : ListEnd) (m : CellNo) : (s.link q e m).timeouts = s.timeouts :=
  (congrArg State.timeouts (link_frame s q e m)).trans rfl
@[simp] theorem link_jobs (q : QueueNo) (e : ListEnd) (m : CellNo) : (s.link q e m).jobs = s.jobs :=
  (congrArg State.jobs (link_frame s q e m)).trans rfl
@[simp] theorem link_capture (q : QueueNo) (e : ListEnd) (m : CellNo) : (s.link q e m).capture = s.capture :=
  (congrArg State.capture (link_frame s q e m)).trans rfl
@[simp] theorem link_correctable (q : QueueNo) (e : ListEnd) (m : CellNo) : (s.link q e m).correctable = s.correctable :=
  (congrArg State.correctable (link_frame s q e m)).trans rfl
@[simp] theorem link_uncorrectable (q : QueueNo) (e : ListEnd) (m : CellNo) : (s.link q e m).uncorrectable = s.uncorrectable :=
  (congrArg State.uncorrectable (link_frame s q e m)).trans rfl
@[simp] theorem link_overflow (q : QueueNo) (e : ListEnd) (m : CellNo) : (s.link q e m).overflow = s.overflow :=
  (congrArg State.overflow (link_frame s q e m)).trans rfl
@[simp] theorem link_interfaces (q : QueueNo) (e : ListEnd) (m : CellNo) : (s.link q e m).interfaces = s.interfaces :=
  (congrArg State.interfaces (link_frame s q e m)).trans rfl
@[simp] theorem link_port (q : QueueNo) (e : ListEnd) (m : CellNo) (r : Port) : (s.link q e m).port r = s.port r :=
  (congrArg (fun t => State.port t r) (link_frame s q e m)).trans rfl
@[simp] theorem link_interface (q : QueueNo) (e : ListEnd) (m : CellNo) (r : Port) : (s.link q e m).interface r = s.interface r :=
  (congrArg (fun t => State.interface t r) (link_frame s q e m)).trans rfl
@[simp] theorem link_slot (q : QueueNo) (e : ListEnd) (m : CellNo) (r : Port) (j : SlotNo) : (s.link q e m).slot r j = s.slot r j :=
  (congrArg (fun t => State.slot t r j) (link_frame s q e m)).trans rfl
@[simp] theorem link_message (q : QueueNo) (e : ListEnd) (m : CellNo) (k : CellNo) : (s.link q e m).message k = s.message k :=
  (congrArg (fun t => State.message t k) (link_frame s q e m)).trans rfl

/-! ## unlink -/

theorem unlink_frame (q : QueueNo) (e : ListEnd) :
    s.unlink q e =
      { s with
        queues := (s.unlink q e).queues
        notices := (s.unlink q e).notices } := by
  cases e <;> exact changeList_frame s q _

@[simp] theorem unlink_pending (q : QueueNo) (e : ListEnd) : (s.unlink q e).pending = s.pending :=
  (congrArg State.pending (unlink_frame s q e)).trans rfl
@[simp] theorem unlink_device (q : QueueNo) (e : ListEnd) : (s.unlink q e).device = s.device :=
  (congrArg State.device (unlink_frame s q e)).trans rfl
@[simp] theorem unlink_deviceLine (q : QueueNo) (e : ListEnd) : (s.unlink q e).deviceLine = s.deviceLine :=
  (congrArg State.deviceLine (unlink_frame s q e)).trans rfl
@[simp] theorem unlink_walk (q : QueueNo) (e : ListEnd) : (s.unlink q e).walk = s.walk :=
  (congrArg State.walk (unlink_frame s q e)).trans rfl
@[simp] theorem unlink_tickPeriod (q : QueueNo) (e : ListEnd) : (s.unlink q e).tickPeriod = s.tickPeriod :=
  (congrArg State.tickPeriod (unlink_frame s q e)).trans rfl
@[simp] theorem unlink_store (q : QueueNo) (e : ListEnd) : (s.unlink q e).store = s.store :=
  (congrArg State.store (unlink_frame s q e)).trans rfl
@[simp] theorem unlink_faultMarks (q : QueueNo) (e : ListEnd) : (s.unlink q e).faultMarks = s.faultMarks :=
  (congrArg State.faultMarks (unlink_frame s q e)).trans rfl
@[simp] theorem unlink_retired (q : QueueNo) (e : ListEnd) : (s.unlink q e).retired = s.retired :=
  (congrArg State.retired (unlink_frame s q e)).trans rfl
@[simp] theorem unlink_formatRetired (q : QueueNo) (e : ListEnd) : (s.unlink q e).formatRetired = s.formatRetired :=
  (congrArg State.formatRetired (unlink_frame s q e)).trans rfl
@[simp] theorem unlink_freeList (q : QueueNo) (e : ListEnd) : (s.unlink q e).freeList = s.freeList :=
  (congrArg State.freeList (unlink_frame s q e)).trans rfl
@[simp] theorem unlink_messages (q : QueueNo) (e : ListEnd) : (s.unlink q e).messages = s.messages :=
  (congrArg State.messages (unlink_frame s q e)).trans rfl
@[simp] theorem unlink_parityErrors (q : QueueNo) (e : ListEnd) : (s.unlink q e).parityErrors = s.parityErrors :=
  (congrArg State.parityErrors (unlink_frame s q e)).trans rfl
@[simp] theorem unlink_ports (q : QueueNo) (e : ListEnd) : (s.unlink q e).ports = s.ports :=
  (congrArg State.ports (unlink_frame s q e)).trans rfl
@[simp] theorem unlink_holdings (q : QueueNo) (e : ListEnd) : (s.unlink q e).holdings = s.holdings :=
  (congrArg State.holdings (unlink_frame s q e)).trans rfl
@[simp] theorem unlink_lastGranted (q : QueueNo) (e : ListEnd) : (s.unlink q e).lastGranted = s.lastGranted :=
  (congrArg State.lastGranted (unlink_frame s q e)).trans rfl
@[simp] theorem unlink_tick (q : QueueNo) (e : ListEnd) : (s.unlink q e).tick = s.tick :=
  (congrArg State.tick (unlink_frame s q e)).trans rfl
@[simp] theorem unlink_timeouts (q : QueueNo) (e : ListEnd) : (s.unlink q e).timeouts = s.timeouts :=
  (congrArg State.timeouts (unlink_frame s q e)).trans rfl
@[simp] theorem unlink_jobs (q : QueueNo) (e : ListEnd) : (s.unlink q e).jobs = s.jobs :=
  (congrArg State.jobs (unlink_frame s q e)).trans rfl
@[simp] theorem unlink_capture (q : QueueNo) (e : ListEnd) : (s.unlink q e).capture = s.capture :=
  (congrArg State.capture (unlink_frame s q e)).trans rfl
@[simp] theorem unlink_correctable (q : QueueNo) (e : ListEnd) : (s.unlink q e).correctable = s.correctable :=
  (congrArg State.correctable (unlink_frame s q e)).trans rfl
@[simp] theorem unlink_uncorrectable (q : QueueNo) (e : ListEnd) : (s.unlink q e).uncorrectable = s.uncorrectable :=
  (congrArg State.uncorrectable (unlink_frame s q e)).trans rfl
@[simp] theorem unlink_overflow (q : QueueNo) (e : ListEnd) : (s.unlink q e).overflow = s.overflow :=
  (congrArg State.overflow (unlink_frame s q e)).trans rfl
@[simp] theorem unlink_interfaces (q : QueueNo) (e : ListEnd) : (s.unlink q e).interfaces = s.interfaces :=
  (congrArg State.interfaces (unlink_frame s q e)).trans rfl
@[simp] theorem unlink_port (q : QueueNo) (e : ListEnd) (r : Port) : (s.unlink q e).port r = s.port r :=
  (congrArg (fun t => State.port t r) (unlink_frame s q e)).trans rfl
@[simp] theorem unlink_interface (q : QueueNo) (e : ListEnd) (r : Port) : (s.unlink q e).interface r = s.interface r :=
  (congrArg (fun t => State.interface t r) (unlink_frame s q e)).trans rfl
@[simp] theorem unlink_slot (q : QueueNo) (e : ListEnd) (r : Port) (j : SlotNo) : (s.unlink q e).slot r j = s.slot r j :=
  (congrArg (fun t => State.slot t r j) (unlink_frame s q e)).trans rfl
@[simp] theorem unlink_message (q : QueueNo) (e : ListEnd) (k : CellNo) : (s.unlink q e).message k = s.message k :=
  (congrArg (fun t => State.message t k) (unlink_frame s q e)).trans rfl

/-! ## updateMessage -/

theorem updateMessage_frame (m : CellNo) (f : Message → Message) :
    s.updateMessage m f =
      { s with
        messages := (s.updateMessage m f).messages } := by
  unfold updateMessage; split <;> rfl

@[simp] theorem updateMessage_pending (m : CellNo) (f : Message → Message) : (s.updateMessage m f).pending = s.pending :=
  (congrArg State.pending (updateMessage_frame s m f)).trans rfl
@[simp] theorem updateMessage_device (m : CellNo) (f : Message → Message) : (s.updateMessage m f).device = s.device :=
  (congrArg State.device (updateMessage_frame s m f)).trans rfl
@[simp] theorem updateMessage_deviceLine (m : CellNo) (f : Message → Message) : (s.updateMessage m f).deviceLine = s.deviceLine :=
  (congrArg State.deviceLine (updateMessage_frame s m f)).trans rfl
@[simp] theorem updateMessage_walk (m : CellNo) (f : Message → Message) : (s.updateMessage m f).walk = s.walk :=
  (congrArg State.walk (updateMessage_frame s m f)).trans rfl
@[simp] theorem updateMessage_tickPeriod (m : CellNo) (f : Message → Message) : (s.updateMessage m f).tickPeriod = s.tickPeriod :=
  (congrArg State.tickPeriod (updateMessage_frame s m f)).trans rfl
@[simp] theorem updateMessage_store (m : CellNo) (f : Message → Message) : (s.updateMessage m f).store = s.store :=
  (congrArg State.store (updateMessage_frame s m f)).trans rfl
@[simp] theorem updateMessage_faultMarks (m : CellNo) (f : Message → Message) : (s.updateMessage m f).faultMarks = s.faultMarks :=
  (congrArg State.faultMarks (updateMessage_frame s m f)).trans rfl
@[simp] theorem updateMessage_retired (m : CellNo) (f : Message → Message) : (s.updateMessage m f).retired = s.retired :=
  (congrArg State.retired (updateMessage_frame s m f)).trans rfl
@[simp] theorem updateMessage_formatRetired (m : CellNo) (f : Message → Message) : (s.updateMessage m f).formatRetired = s.formatRetired :=
  (congrArg State.formatRetired (updateMessage_frame s m f)).trans rfl
@[simp] theorem updateMessage_freeList (m : CellNo) (f : Message → Message) : (s.updateMessage m f).freeList = s.freeList :=
  (congrArg State.freeList (updateMessage_frame s m f)).trans rfl
@[simp] theorem updateMessage_parityErrors (m : CellNo) (f : Message → Message) : (s.updateMessage m f).parityErrors = s.parityErrors :=
  (congrArg State.parityErrors (updateMessage_frame s m f)).trans rfl
@[simp] theorem updateMessage_queues (m : CellNo) (f : Message → Message) : (s.updateMessage m f).queues = s.queues :=
  (congrArg State.queues (updateMessage_frame s m f)).trans rfl
@[simp] theorem updateMessage_ports (m : CellNo) (f : Message → Message) : (s.updateMessage m f).ports = s.ports :=
  (congrArg State.ports (updateMessage_frame s m f)).trans rfl
@[simp] theorem updateMessage_holdings (m : CellNo) (f : Message → Message) : (s.updateMessage m f).holdings = s.holdings :=
  (congrArg State.holdings (updateMessage_frame s m f)).trans rfl
@[simp] theorem updateMessage_lastGranted (m : CellNo) (f : Message → Message) : (s.updateMessage m f).lastGranted = s.lastGranted :=
  (congrArg State.lastGranted (updateMessage_frame s m f)).trans rfl
@[simp] theorem updateMessage_tick (m : CellNo) (f : Message → Message) : (s.updateMessage m f).tick = s.tick :=
  (congrArg State.tick (updateMessage_frame s m f)).trans rfl
@[simp] theorem updateMessage_timeouts (m : CellNo) (f : Message → Message) : (s.updateMessage m f).timeouts = s.timeouts :=
  (congrArg State.timeouts (updateMessage_frame s m f)).trans rfl
@[simp] theorem updateMessage_jobs (m : CellNo) (f : Message → Message) : (s.updateMessage m f).jobs = s.jobs :=
  (congrArg State.jobs (updateMessage_frame s m f)).trans rfl
@[simp] theorem updateMessage_capture (m : CellNo) (f : Message → Message) : (s.updateMessage m f).capture = s.capture :=
  (congrArg State.capture (updateMessage_frame s m f)).trans rfl
@[simp] theorem updateMessage_correctable (m : CellNo) (f : Message → Message) : (s.updateMessage m f).correctable = s.correctable :=
  (congrArg State.correctable (updateMessage_frame s m f)).trans rfl
@[simp] theorem updateMessage_uncorrectable (m : CellNo) (f : Message → Message) : (s.updateMessage m f).uncorrectable = s.uncorrectable :=
  (congrArg State.uncorrectable (updateMessage_frame s m f)).trans rfl
@[simp] theorem updateMessage_overflow (m : CellNo) (f : Message → Message) : (s.updateMessage m f).overflow = s.overflow :=
  (congrArg State.overflow (updateMessage_frame s m f)).trans rfl
@[simp] theorem updateMessage_interfaces (m : CellNo) (f : Message → Message) : (s.updateMessage m f).interfaces = s.interfaces :=
  (congrArg State.interfaces (updateMessage_frame s m f)).trans rfl
@[simp] theorem updateMessage_notices (m : CellNo) (f : Message → Message) : (s.updateMessage m f).notices = s.notices :=
  (congrArg State.notices (updateMessage_frame s m f)).trans rfl
@[simp] theorem updateMessage_queue (m : CellNo) (f : Message → Message) (r : QueueNo) : (s.updateMessage m f).queue r = s.queue r :=
  (congrArg (fun t => State.queue t r) (updateMessage_frame s m f)).trans rfl
@[simp] theorem updateMessage_port (m : CellNo) (f : Message → Message) (r : Port) : (s.updateMessage m f).port r = s.port r :=
  (congrArg (fun t => State.port t r) (updateMessage_frame s m f)).trans rfl
@[simp] theorem updateMessage_interface (m : CellNo) (f : Message → Message) (r : Port) : (s.updateMessage m f).interface r = s.interface r :=
  (congrArg (fun t => State.interface t r) (updateMessage_frame s m f)).trans rfl
@[simp] theorem updateMessage_noticeUnit (m : CellNo) (f : Message → Message) (r : Port) : (s.updateMessage m f).noticeUnit r = s.noticeUnit r :=
  (congrArg (fun t => State.noticeUnit t r) (updateMessage_frame s m f)).trans rfl
@[simp] theorem updateMessage_slot (m : CellNo) (f : Message → Message) (r : Port) (j : SlotNo) : (s.updateMessage m f).slot r j = s.slot r j :=
  (congrArg (fun t => State.slot t r j) (updateMessage_frame s m f)).trans rfl

/-! ## freeCell -/

theorem freeCell_frame (c : CellNo) :
    s.freeCell c =
      { s with
        freeList := (s.freeCell c).freeList
        retired := (s.freeCell c).retired
        parityErrors := (s.freeCell c).parityErrors } := by
  unfold freeCell; split <;> rfl

/-! ## freeMessage -/

theorem freeMessage_frame (m : CellNo) :
    s.freeMessage m =
      { s with
        freeList := (s.freeMessage m).freeList
        retired := (s.freeMessage m).retired
        parityErrors := (s.freeMessage m).parityErrors
        messages := (s.freeMessage m).messages } := by
  have fold : ∀ (l : List CellNo) (t : State), l.foldl freeCell t =
      { t with freeList := (l.foldl freeCell t).freeList, retired := (l.foldl freeCell t).retired,
               parityErrors := (l.foldl freeCell t).parityErrors } := by
    intro l
    induction l with
    | nil => intro t; rfl
    | cons a l ih =>
      intro t
      rw [List.foldl_cons, ih, freeCell_frame]
  unfold freeMessage
  rw [fold]

@[simp] theorem freeMessage_pending (m : CellNo) : (s.freeMessage m).pending = s.pending :=
  (congrArg State.pending (freeMessage_frame s m)).trans rfl
@[simp] theorem freeMessage_device (m : CellNo) : (s.freeMessage m).device = s.device :=
  (congrArg State.device (freeMessage_frame s m)).trans rfl
@[simp] theorem freeMessage_deviceLine (m : CellNo) : (s.freeMessage m).deviceLine = s.deviceLine :=
  (congrArg State.deviceLine (freeMessage_frame s m)).trans rfl
@[simp] theorem freeMessage_walk (m : CellNo) : (s.freeMessage m).walk = s.walk :=
  (congrArg State.walk (freeMessage_frame s m)).trans rfl
@[simp] theorem freeMessage_tickPeriod (m : CellNo) : (s.freeMessage m).tickPeriod = s.tickPeriod :=
  (congrArg State.tickPeriod (freeMessage_frame s m)).trans rfl
@[simp] theorem freeMessage_store (m : CellNo) : (s.freeMessage m).store = s.store :=
  (congrArg State.store (freeMessage_frame s m)).trans rfl
@[simp] theorem freeMessage_faultMarks (m : CellNo) : (s.freeMessage m).faultMarks = s.faultMarks :=
  (congrArg State.faultMarks (freeMessage_frame s m)).trans rfl
@[simp] theorem freeMessage_formatRetired (m : CellNo) : (s.freeMessage m).formatRetired = s.formatRetired :=
  (congrArg State.formatRetired (freeMessage_frame s m)).trans rfl
@[simp] theorem freeMessage_queues (m : CellNo) : (s.freeMessage m).queues = s.queues :=
  (congrArg State.queues (freeMessage_frame s m)).trans rfl
@[simp] theorem freeMessage_ports (m : CellNo) : (s.freeMessage m).ports = s.ports :=
  (congrArg State.ports (freeMessage_frame s m)).trans rfl
@[simp] theorem freeMessage_holdings (m : CellNo) : (s.freeMessage m).holdings = s.holdings :=
  (congrArg State.holdings (freeMessage_frame s m)).trans rfl
@[simp] theorem freeMessage_lastGranted (m : CellNo) : (s.freeMessage m).lastGranted = s.lastGranted :=
  (congrArg State.lastGranted (freeMessage_frame s m)).trans rfl
@[simp] theorem freeMessage_tick (m : CellNo) : (s.freeMessage m).tick = s.tick :=
  (congrArg State.tick (freeMessage_frame s m)).trans rfl
@[simp] theorem freeMessage_timeouts (m : CellNo) : (s.freeMessage m).timeouts = s.timeouts :=
  (congrArg State.timeouts (freeMessage_frame s m)).trans rfl
@[simp] theorem freeMessage_jobs (m : CellNo) : (s.freeMessage m).jobs = s.jobs :=
  (congrArg State.jobs (freeMessage_frame s m)).trans rfl
@[simp] theorem freeMessage_capture (m : CellNo) : (s.freeMessage m).capture = s.capture :=
  (congrArg State.capture (freeMessage_frame s m)).trans rfl
@[simp] theorem freeMessage_correctable (m : CellNo) : (s.freeMessage m).correctable = s.correctable :=
  (congrArg State.correctable (freeMessage_frame s m)).trans rfl
@[simp] theorem freeMessage_uncorrectable (m : CellNo) : (s.freeMessage m).uncorrectable = s.uncorrectable :=
  (congrArg State.uncorrectable (freeMessage_frame s m)).trans rfl
@[simp] theorem freeMessage_overflow (m : CellNo) : (s.freeMessage m).overflow = s.overflow :=
  (congrArg State.overflow (freeMessage_frame s m)).trans rfl
@[simp] theorem freeMessage_interfaces (m : CellNo) : (s.freeMessage m).interfaces = s.interfaces :=
  (congrArg State.interfaces (freeMessage_frame s m)).trans rfl
@[simp] theorem freeMessage_notices (m : CellNo) : (s.freeMessage m).notices = s.notices :=
  (congrArg State.notices (freeMessage_frame s m)).trans rfl
@[simp] theorem freeMessage_queue (m : CellNo) (r : QueueNo) : (s.freeMessage m).queue r = s.queue r :=
  (congrArg (fun t => State.queue t r) (freeMessage_frame s m)).trans rfl
@[simp] theorem freeMessage_port (m : CellNo) (r : Port) : (s.freeMessage m).port r = s.port r :=
  (congrArg (fun t => State.port t r) (freeMessage_frame s m)).trans rfl
@[simp] theorem freeMessage_interface (m : CellNo) (r : Port) : (s.freeMessage m).interface r = s.interface r :=
  (congrArg (fun t => State.interface t r) (freeMessage_frame s m)).trans rfl
@[simp] theorem freeMessage_noticeUnit (m : CellNo) (r : Port) : (s.freeMessage m).noticeUnit r = s.noticeUnit r :=
  (congrArg (fun t => State.noticeUnit t r) (freeMessage_frame s m)).trans rfl
@[simp] theorem freeMessage_slot (m : CellNo) (r : Port) (j : SlotNo) : (s.freeMessage m).slot r j = s.slot r j :=
  (congrArg (fun t => State.slot t r j) (freeMessage_frame s m)).trans rfl

/-! ## fillSlot -/

theorem fillSlot_frame (p : Port) (i : SlotNo) (h : Holding) :
    s.fillSlot p i h =
      { s with
        holdings := (s.fillSlot p i h).holdings } := rfl

@[simp] theorem fillSlot_pending (p : Port) (i : SlotNo) (h : Holding) : (s.fillSlot p i h).pending = s.pending := (rfl)
@[simp] theorem fillSlot_device (p : Port) (i : SlotNo) (h : Holding) : (s.fillSlot p i h).device = s.device := (rfl)
@[simp] theorem fillSlot_deviceLine (p : Port) (i : SlotNo) (h : Holding) : (s.fillSlot p i h).deviceLine = s.deviceLine := (rfl)
@[simp] theorem fillSlot_walk (p : Port) (i : SlotNo) (h : Holding) : (s.fillSlot p i h).walk = s.walk := (rfl)
@[simp] theorem fillSlot_tickPeriod (p : Port) (i : SlotNo) (h : Holding) : (s.fillSlot p i h).tickPeriod = s.tickPeriod := (rfl)
@[simp] theorem fillSlot_store (p : Port) (i : SlotNo) (h : Holding) : (s.fillSlot p i h).store = s.store := (rfl)
@[simp] theorem fillSlot_faultMarks (p : Port) (i : SlotNo) (h : Holding) : (s.fillSlot p i h).faultMarks = s.faultMarks := (rfl)
@[simp] theorem fillSlot_retired (p : Port) (i : SlotNo) (h : Holding) : (s.fillSlot p i h).retired = s.retired := (rfl)
@[simp] theorem fillSlot_formatRetired (p : Port) (i : SlotNo) (h : Holding) : (s.fillSlot p i h).formatRetired = s.formatRetired := (rfl)
@[simp] theorem fillSlot_freeList (p : Port) (i : SlotNo) (h : Holding) : (s.fillSlot p i h).freeList = s.freeList := (rfl)
@[simp] theorem fillSlot_messages (p : Port) (i : SlotNo) (h : Holding) : (s.fillSlot p i h).messages = s.messages := (rfl)
@[simp] theorem fillSlot_parityErrors (p : Port) (i : SlotNo) (h : Holding) : (s.fillSlot p i h).parityErrors = s.parityErrors := (rfl)
@[simp] theorem fillSlot_queues (p : Port) (i : SlotNo) (h : Holding) : (s.fillSlot p i h).queues = s.queues := (rfl)
@[simp] theorem fillSlot_ports (p : Port) (i : SlotNo) (h : Holding) : (s.fillSlot p i h).ports = s.ports := (rfl)
@[simp] theorem fillSlot_lastGranted (p : Port) (i : SlotNo) (h : Holding) : (s.fillSlot p i h).lastGranted = s.lastGranted := (rfl)
@[simp] theorem fillSlot_tick (p : Port) (i : SlotNo) (h : Holding) : (s.fillSlot p i h).tick = s.tick := (rfl)
@[simp] theorem fillSlot_timeouts (p : Port) (i : SlotNo) (h : Holding) : (s.fillSlot p i h).timeouts = s.timeouts := (rfl)
@[simp] theorem fillSlot_jobs (p : Port) (i : SlotNo) (h : Holding) : (s.fillSlot p i h).jobs = s.jobs := (rfl)
@[simp] theorem fillSlot_capture (p : Port) (i : SlotNo) (h : Holding) : (s.fillSlot p i h).capture = s.capture := (rfl)
@[simp] theorem fillSlot_correctable (p : Port) (i : SlotNo) (h : Holding) : (s.fillSlot p i h).correctable = s.correctable := (rfl)
@[simp] theorem fillSlot_uncorrectable (p : Port) (i : SlotNo) (h : Holding) : (s.fillSlot p i h).uncorrectable = s.uncorrectable := (rfl)
@[simp] theorem fillSlot_overflow (p : Port) (i : SlotNo) (h : Holding) : (s.fillSlot p i h).overflow = s.overflow := (rfl)
@[simp] theorem fillSlot_interfaces (p : Port) (i : SlotNo) (h : Holding) : (s.fillSlot p i h).interfaces = s.interfaces := (rfl)
@[simp] theorem fillSlot_notices (p : Port) (i : SlotNo) (h : Holding) : (s.fillSlot p i h).notices = s.notices := (rfl)
@[simp] theorem fillSlot_queue (p : Port) (i : SlotNo) (h : Holding) (r : QueueNo) : (s.fillSlot p i h).queue r = s.queue r :=
  (rfl)
@[simp] theorem fillSlot_port (p : Port) (i : SlotNo) (h : Holding) (r : Port) : (s.fillSlot p i h).port r = s.port r :=
  (rfl)
@[simp] theorem fillSlot_interface (p : Port) (i : SlotNo) (h : Holding) (r : Port) : (s.fillSlot p i h).interface r = s.interface r :=
  (rfl)
@[simp] theorem fillSlot_noticeUnit (p : Port) (i : SlotNo) (h : Holding) (r : Port) : (s.fillSlot p i h).noticeUnit r = s.noticeUnit r :=
  (rfl)
@[simp] theorem fillSlot_message (p : Port) (i : SlotNo) (h : Holding) (k : CellNo) : (s.fillSlot p i h).message k = s.message k :=
  (rfl)

/-! ## emptySlot -/

theorem emptySlot_frame (p : Port) (i : SlotNo) :
    s.emptySlot p i =
      { s with
        holdings := (s.emptySlot p i).holdings } := rfl

@[simp] theorem emptySlot_pending (p : Port) (i : SlotNo) : (s.emptySlot p i).pending = s.pending := (rfl)
@[simp] theorem emptySlot_device (p : Port) (i : SlotNo) : (s.emptySlot p i).device = s.device := (rfl)
@[simp] theorem emptySlot_deviceLine (p : Port) (i : SlotNo) : (s.emptySlot p i).deviceLine = s.deviceLine := (rfl)
@[simp] theorem emptySlot_walk (p : Port) (i : SlotNo) : (s.emptySlot p i).walk = s.walk := (rfl)
@[simp] theorem emptySlot_tickPeriod (p : Port) (i : SlotNo) : (s.emptySlot p i).tickPeriod = s.tickPeriod := (rfl)
@[simp] theorem emptySlot_store (p : Port) (i : SlotNo) : (s.emptySlot p i).store = s.store := (rfl)
@[simp] theorem emptySlot_faultMarks (p : Port) (i : SlotNo) : (s.emptySlot p i).faultMarks = s.faultMarks := (rfl)
@[simp] theorem emptySlot_retired (p : Port) (i : SlotNo) : (s.emptySlot p i).retired = s.retired := (rfl)
@[simp] theorem emptySlot_formatRetired (p : Port) (i : SlotNo) : (s.emptySlot p i).formatRetired = s.formatRetired := (rfl)
@[simp] theorem emptySlot_freeList (p : Port) (i : SlotNo) : (s.emptySlot p i).freeList = s.freeList := (rfl)
@[simp] theorem emptySlot_messages (p : Port) (i : SlotNo) : (s.emptySlot p i).messages = s.messages := (rfl)
@[simp] theorem emptySlot_parityErrors (p : Port) (i : SlotNo) : (s.emptySlot p i).parityErrors = s.parityErrors := (rfl)
@[simp] theorem emptySlot_queues (p : Port) (i : SlotNo) : (s.emptySlot p i).queues = s.queues := (rfl)
@[simp] theorem emptySlot_ports (p : Port) (i : SlotNo) : (s.emptySlot p i).ports = s.ports := (rfl)
@[simp] theorem emptySlot_lastGranted (p : Port) (i : SlotNo) : (s.emptySlot p i).lastGranted = s.lastGranted := (rfl)
@[simp] theorem emptySlot_tick (p : Port) (i : SlotNo) : (s.emptySlot p i).tick = s.tick := (rfl)
@[simp] theorem emptySlot_timeouts (p : Port) (i : SlotNo) : (s.emptySlot p i).timeouts = s.timeouts := (rfl)
@[simp] theorem emptySlot_jobs (p : Port) (i : SlotNo) : (s.emptySlot p i).jobs = s.jobs := (rfl)
@[simp] theorem emptySlot_capture (p : Port) (i : SlotNo) : (s.emptySlot p i).capture = s.capture := (rfl)
@[simp] theorem emptySlot_correctable (p : Port) (i : SlotNo) : (s.emptySlot p i).correctable = s.correctable := (rfl)
@[simp] theorem emptySlot_uncorrectable (p : Port) (i : SlotNo) : (s.emptySlot p i).uncorrectable = s.uncorrectable := (rfl)
@[simp] theorem emptySlot_overflow (p : Port) (i : SlotNo) : (s.emptySlot p i).overflow = s.overflow := (rfl)
@[simp] theorem emptySlot_interfaces (p : Port) (i : SlotNo) : (s.emptySlot p i).interfaces = s.interfaces := (rfl)
@[simp] theorem emptySlot_notices (p : Port) (i : SlotNo) : (s.emptySlot p i).notices = s.notices := (rfl)
@[simp] theorem emptySlot_queue (p : Port) (i : SlotNo) (r : QueueNo) : (s.emptySlot p i).queue r = s.queue r :=
  (rfl)
@[simp] theorem emptySlot_port (p : Port) (i : SlotNo) (r : Port) : (s.emptySlot p i).port r = s.port r :=
  (rfl)
@[simp] theorem emptySlot_interface (p : Port) (i : SlotNo) (r : Port) : (s.emptySlot p i).interface r = s.interface r :=
  (rfl)
@[simp] theorem emptySlot_noticeUnit (p : Port) (i : SlotNo) (r : Port) : (s.emptySlot p i).noticeUnit r = s.noticeUnit r :=
  (rfl)
@[simp] theorem emptySlot_message (p : Port) (i : SlotNo) (k : CellNo) : (s.emptySlot p i).message k = s.message k :=
  (rfl)

/-! ## lowerOutstanding -/

theorem lowerOutstanding_frame (q : QueueNo) :
    s.lowerOutstanding q =
      { s with
        queues := (s.lowerOutstanding q).queues } := rfl

@[simp] theorem lowerOutstanding_pending (q : QueueNo) : (s.lowerOutstanding q).pending = s.pending := (rfl)
@[simp] theorem lowerOutstanding_device (q : QueueNo) : (s.lowerOutstanding q).device = s.device := (rfl)
@[simp] theorem lowerOutstanding_deviceLine (q : QueueNo) : (s.lowerOutstanding q).deviceLine = s.deviceLine := (rfl)
@[simp] theorem lowerOutstanding_walk (q : QueueNo) : (s.lowerOutstanding q).walk = s.walk := (rfl)
@[simp] theorem lowerOutstanding_tickPeriod (q : QueueNo) : (s.lowerOutstanding q).tickPeriod = s.tickPeriod := (rfl)
@[simp] theorem lowerOutstanding_store (q : QueueNo) : (s.lowerOutstanding q).store = s.store := (rfl)
@[simp] theorem lowerOutstanding_faultMarks (q : QueueNo) : (s.lowerOutstanding q).faultMarks = s.faultMarks := (rfl)
@[simp] theorem lowerOutstanding_retired (q : QueueNo) : (s.lowerOutstanding q).retired = s.retired := (rfl)
@[simp] theorem lowerOutstanding_formatRetired (q : QueueNo) : (s.lowerOutstanding q).formatRetired = s.formatRetired := (rfl)
@[simp] theorem lowerOutstanding_freeList (q : QueueNo) : (s.lowerOutstanding q).freeList = s.freeList := (rfl)
@[simp] theorem lowerOutstanding_messages (q : QueueNo) : (s.lowerOutstanding q).messages = s.messages := (rfl)
@[simp] theorem lowerOutstanding_parityErrors (q : QueueNo) : (s.lowerOutstanding q).parityErrors = s.parityErrors := (rfl)
@[simp] theorem lowerOutstanding_ports (q : QueueNo) : (s.lowerOutstanding q).ports = s.ports := (rfl)
@[simp] theorem lowerOutstanding_holdings (q : QueueNo) : (s.lowerOutstanding q).holdings = s.holdings := (rfl)
@[simp] theorem lowerOutstanding_lastGranted (q : QueueNo) : (s.lowerOutstanding q).lastGranted = s.lastGranted := (rfl)
@[simp] theorem lowerOutstanding_tick (q : QueueNo) : (s.lowerOutstanding q).tick = s.tick := (rfl)
@[simp] theorem lowerOutstanding_timeouts (q : QueueNo) : (s.lowerOutstanding q).timeouts = s.timeouts := (rfl)
@[simp] theorem lowerOutstanding_jobs (q : QueueNo) : (s.lowerOutstanding q).jobs = s.jobs := (rfl)
@[simp] theorem lowerOutstanding_capture (q : QueueNo) : (s.lowerOutstanding q).capture = s.capture := (rfl)
@[simp] theorem lowerOutstanding_correctable (q : QueueNo) : (s.lowerOutstanding q).correctable = s.correctable := (rfl)
@[simp] theorem lowerOutstanding_uncorrectable (q : QueueNo) : (s.lowerOutstanding q).uncorrectable = s.uncorrectable := (rfl)
@[simp] theorem lowerOutstanding_overflow (q : QueueNo) : (s.lowerOutstanding q).overflow = s.overflow := (rfl)
@[simp] theorem lowerOutstanding_interfaces (q : QueueNo) : (s.lowerOutstanding q).interfaces = s.interfaces := (rfl)
@[simp] theorem lowerOutstanding_notices (q : QueueNo) : (s.lowerOutstanding q).notices = s.notices := (rfl)
@[simp] theorem lowerOutstanding_port (q : QueueNo) (r : Port) : (s.lowerOutstanding q).port r = s.port r :=
  (rfl)
@[simp] theorem lowerOutstanding_interface (q : QueueNo) (r : Port) : (s.lowerOutstanding q).interface r = s.interface r :=
  (rfl)
@[simp] theorem lowerOutstanding_noticeUnit (q : QueueNo) (r : Port) : (s.lowerOutstanding q).noticeUnit r = s.noticeUnit r :=
  (rfl)
@[simp] theorem lowerOutstanding_slot (q : QueueNo) (r : Port) (j : SlotNo) : (s.lowerOutstanding q).slot r j = s.slot r j :=
  (rfl)
@[simp] theorem lowerOutstanding_message (q : QueueNo) (k : CellNo) : (s.lowerOutstanding q).message k = s.message k :=
  (rfl)

/-! ## lowerSource -/

theorem lowerSource_frame (x : Option QueueNo) :
    s.lowerSource x =
      { s with
        queues := (s.lowerSource x).queues } := by
  unfold lowerSource; split <;> rfl

@[simp] theorem lowerSource_pending (x : Option QueueNo) : (s.lowerSource x).pending = s.pending :=
  (congrArg State.pending (lowerSource_frame s x)).trans rfl
@[simp] theorem lowerSource_device (x : Option QueueNo) : (s.lowerSource x).device = s.device :=
  (congrArg State.device (lowerSource_frame s x)).trans rfl
@[simp] theorem lowerSource_deviceLine (x : Option QueueNo) : (s.lowerSource x).deviceLine = s.deviceLine :=
  (congrArg State.deviceLine (lowerSource_frame s x)).trans rfl
@[simp] theorem lowerSource_walk (x : Option QueueNo) : (s.lowerSource x).walk = s.walk :=
  (congrArg State.walk (lowerSource_frame s x)).trans rfl
@[simp] theorem lowerSource_tickPeriod (x : Option QueueNo) : (s.lowerSource x).tickPeriod = s.tickPeriod :=
  (congrArg State.tickPeriod (lowerSource_frame s x)).trans rfl
@[simp] theorem lowerSource_store (x : Option QueueNo) : (s.lowerSource x).store = s.store :=
  (congrArg State.store (lowerSource_frame s x)).trans rfl
@[simp] theorem lowerSource_faultMarks (x : Option QueueNo) : (s.lowerSource x).faultMarks = s.faultMarks :=
  (congrArg State.faultMarks (lowerSource_frame s x)).trans rfl
@[simp] theorem lowerSource_retired (x : Option QueueNo) : (s.lowerSource x).retired = s.retired :=
  (congrArg State.retired (lowerSource_frame s x)).trans rfl
@[simp] theorem lowerSource_formatRetired (x : Option QueueNo) : (s.lowerSource x).formatRetired = s.formatRetired :=
  (congrArg State.formatRetired (lowerSource_frame s x)).trans rfl
@[simp] theorem lowerSource_freeList (x : Option QueueNo) : (s.lowerSource x).freeList = s.freeList :=
  (congrArg State.freeList (lowerSource_frame s x)).trans rfl
@[simp] theorem lowerSource_messages (x : Option QueueNo) : (s.lowerSource x).messages = s.messages :=
  (congrArg State.messages (lowerSource_frame s x)).trans rfl
@[simp] theorem lowerSource_parityErrors (x : Option QueueNo) : (s.lowerSource x).parityErrors = s.parityErrors :=
  (congrArg State.parityErrors (lowerSource_frame s x)).trans rfl
@[simp] theorem lowerSource_ports (x : Option QueueNo) : (s.lowerSource x).ports = s.ports :=
  (congrArg State.ports (lowerSource_frame s x)).trans rfl
@[simp] theorem lowerSource_holdings (x : Option QueueNo) : (s.lowerSource x).holdings = s.holdings :=
  (congrArg State.holdings (lowerSource_frame s x)).trans rfl
@[simp] theorem lowerSource_lastGranted (x : Option QueueNo) : (s.lowerSource x).lastGranted = s.lastGranted :=
  (congrArg State.lastGranted (lowerSource_frame s x)).trans rfl
@[simp] theorem lowerSource_tick (x : Option QueueNo) : (s.lowerSource x).tick = s.tick :=
  (congrArg State.tick (lowerSource_frame s x)).trans rfl
@[simp] theorem lowerSource_timeouts (x : Option QueueNo) : (s.lowerSource x).timeouts = s.timeouts :=
  (congrArg State.timeouts (lowerSource_frame s x)).trans rfl
@[simp] theorem lowerSource_jobs (x : Option QueueNo) : (s.lowerSource x).jobs = s.jobs :=
  (congrArg State.jobs (lowerSource_frame s x)).trans rfl
@[simp] theorem lowerSource_capture (x : Option QueueNo) : (s.lowerSource x).capture = s.capture :=
  (congrArg State.capture (lowerSource_frame s x)).trans rfl
@[simp] theorem lowerSource_correctable (x : Option QueueNo) : (s.lowerSource x).correctable = s.correctable :=
  (congrArg State.correctable (lowerSource_frame s x)).trans rfl
@[simp] theorem lowerSource_uncorrectable (x : Option QueueNo) : (s.lowerSource x).uncorrectable = s.uncorrectable :=
  (congrArg State.uncorrectable (lowerSource_frame s x)).trans rfl
@[simp] theorem lowerSource_overflow (x : Option QueueNo) : (s.lowerSource x).overflow = s.overflow :=
  (congrArg State.overflow (lowerSource_frame s x)).trans rfl
@[simp] theorem lowerSource_interfaces (x : Option QueueNo) : (s.lowerSource x).interfaces = s.interfaces :=
  (congrArg State.interfaces (lowerSource_frame s x)).trans rfl
@[simp] theorem lowerSource_notices (x : Option QueueNo) : (s.lowerSource x).notices = s.notices :=
  (congrArg State.notices (lowerSource_frame s x)).trans rfl
@[simp] theorem lowerSource_port (x : Option QueueNo) (r : Port) : (s.lowerSource x).port r = s.port r :=
  (congrArg (fun t => State.port t r) (lowerSource_frame s x)).trans rfl
@[simp] theorem lowerSource_interface (x : Option QueueNo) (r : Port) : (s.lowerSource x).interface r = s.interface r :=
  (congrArg (fun t => State.interface t r) (lowerSource_frame s x)).trans rfl
@[simp] theorem lowerSource_noticeUnit (x : Option QueueNo) (r : Port) : (s.lowerSource x).noticeUnit r = s.noticeUnit r :=
  (congrArg (fun t => State.noticeUnit t r) (lowerSource_frame s x)).trans rfl
@[simp] theorem lowerSource_slot (x : Option QueueNo) (r : Port) (j : SlotNo) : (s.lowerSource x).slot r j = s.slot r j :=
  (congrArg (fun t => State.slot t r j) (lowerSource_frame s x)).trans rfl
@[simp] theorem lowerSource_message (x : Option QueueNo) (k : CellNo) : (s.lowerSource x).message k = s.message k :=
  (congrArg (fun t => State.message t k) (lowerSource_frame s x)).trans rfl

/-! ## settleReturn -/

theorem settleReturn_frame (q : QueueNo) (m : CellNo) (d : Disposition) :
    s.settleReturn q m d =
      { s with
        queues := (s.settleReturn q m d).queues
        notices := (s.settleReturn q m d).notices
        messages := (s.settleReturn q m d).messages
        freeList := (s.settleReturn q m d).freeList
        retired := (s.settleReturn q m d).retired
        parityErrors := (s.settleReturn q m d).parityErrors } := by
  unfold settleReturn
  split
  · rw [show ∀ t : State, t.raiseRedelivered q = { t with queues := (t.raiseRedelivered q).queues } from fun _ => rfl,
      link_frame, updateMessage_frame]
  · rw [link_frame, updateMessage_frame]
  · rw [show ∀ t : State, t.raiseDiscarded q = { t with queues := (t.raiseDiscarded q).queues } from fun _ => rfl,
      freeMessage_frame]

@[simp] theorem settleReturn_pending (q : QueueNo) (m : CellNo) (d : Disposition) : (s.settleReturn q m d).pending = s.pending :=
  (congrArg State.pending (settleReturn_frame s q m d)).trans rfl
@[simp] theorem settleReturn_device (q : QueueNo) (m : CellNo) (d : Disposition) : (s.settleReturn q m d).device = s.device :=
  (congrArg State.device (settleReturn_frame s q m d)).trans rfl
@[simp] theorem settleReturn_deviceLine (q : QueueNo) (m : CellNo) (d : Disposition) : (s.settleReturn q m d).deviceLine = s.deviceLine :=
  (congrArg State.deviceLine (settleReturn_frame s q m d)).trans rfl
@[simp] theorem settleReturn_walk (q : QueueNo) (m : CellNo) (d : Disposition) : (s.settleReturn q m d).walk = s.walk :=
  (congrArg State.walk (settleReturn_frame s q m d)).trans rfl
@[simp] theorem settleReturn_tickPeriod (q : QueueNo) (m : CellNo) (d : Disposition) : (s.settleReturn q m d).tickPeriod = s.tickPeriod :=
  (congrArg State.tickPeriod (settleReturn_frame s q m d)).trans rfl
@[simp] theorem settleReturn_store (q : QueueNo) (m : CellNo) (d : Disposition) : (s.settleReturn q m d).store = s.store :=
  (congrArg State.store (settleReturn_frame s q m d)).trans rfl
@[simp] theorem settleReturn_faultMarks (q : QueueNo) (m : CellNo) (d : Disposition) : (s.settleReturn q m d).faultMarks = s.faultMarks :=
  (congrArg State.faultMarks (settleReturn_frame s q m d)).trans rfl
@[simp] theorem settleReturn_formatRetired (q : QueueNo) (m : CellNo) (d : Disposition) : (s.settleReturn q m d).formatRetired = s.formatRetired :=
  (congrArg State.formatRetired (settleReturn_frame s q m d)).trans rfl
@[simp] theorem settleReturn_ports (q : QueueNo) (m : CellNo) (d : Disposition) : (s.settleReturn q m d).ports = s.ports :=
  (congrArg State.ports (settleReturn_frame s q m d)).trans rfl
@[simp] theorem settleReturn_holdings (q : QueueNo) (m : CellNo) (d : Disposition) : (s.settleReturn q m d).holdings = s.holdings :=
  (congrArg State.holdings (settleReturn_frame s q m d)).trans rfl
@[simp] theorem settleReturn_lastGranted (q : QueueNo) (m : CellNo) (d : Disposition) : (s.settleReturn q m d).lastGranted = s.lastGranted :=
  (congrArg State.lastGranted (settleReturn_frame s q m d)).trans rfl
@[simp] theorem settleReturn_tick (q : QueueNo) (m : CellNo) (d : Disposition) : (s.settleReturn q m d).tick = s.tick :=
  (congrArg State.tick (settleReturn_frame s q m d)).trans rfl
@[simp] theorem settleReturn_timeouts (q : QueueNo) (m : CellNo) (d : Disposition) : (s.settleReturn q m d).timeouts = s.timeouts :=
  (congrArg State.timeouts (settleReturn_frame s q m d)).trans rfl
@[simp] theorem settleReturn_jobs (q : QueueNo) (m : CellNo) (d : Disposition) : (s.settleReturn q m d).jobs = s.jobs :=
  (congrArg State.jobs (settleReturn_frame s q m d)).trans rfl
@[simp] theorem settleReturn_capture (q : QueueNo) (m : CellNo) (d : Disposition) : (s.settleReturn q m d).capture = s.capture :=
  (congrArg State.capture (settleReturn_frame s q m d)).trans rfl
@[simp] theorem settleReturn_correctable (q : QueueNo) (m : CellNo) (d : Disposition) : (s.settleReturn q m d).correctable = s.correctable :=
  (congrArg State.correctable (settleReturn_frame s q m d)).trans rfl
@[simp] theorem settleReturn_uncorrectable (q : QueueNo) (m : CellNo) (d : Disposition) : (s.settleReturn q m d).uncorrectable = s.uncorrectable :=
  (congrArg State.uncorrectable (settleReturn_frame s q m d)).trans rfl
@[simp] theorem settleReturn_overflow (q : QueueNo) (m : CellNo) (d : Disposition) : (s.settleReturn q m d).overflow = s.overflow :=
  (congrArg State.overflow (settleReturn_frame s q m d)).trans rfl
@[simp] theorem settleReturn_interfaces (q : QueueNo) (m : CellNo) (d : Disposition) : (s.settleReturn q m d).interfaces = s.interfaces :=
  (congrArg State.interfaces (settleReturn_frame s q m d)).trans rfl
@[simp] theorem settleReturn_port (q : QueueNo) (m : CellNo) (d : Disposition) (r : Port) : (s.settleReturn q m d).port r = s.port r :=
  (congrArg (fun t => State.port t r) (settleReturn_frame s q m d)).trans rfl
@[simp] theorem settleReturn_interface (q : QueueNo) (m : CellNo) (d : Disposition) (r : Port) : (s.settleReturn q m d).interface r = s.interface r :=
  (congrArg (fun t => State.interface t r) (settleReturn_frame s q m d)).trans rfl
@[simp] theorem settleReturn_slot (q : QueueNo) (m : CellNo) (d : Disposition) (r : Port) (j : SlotNo) : (s.settleReturn q m d).slot r j = s.slot r j :=
  (congrArg (fun t => State.slot t r j) (settleReturn_frame s q m d)).trans rfl

/-! ## returnPath -/

theorem returnPath_frame (q : QueueNo) (m : CellNo) :
    s.returnPath q m =
      { s with
        queues := (s.returnPath q m).queues
        notices := (s.returnPath q m).notices
        messages := (s.returnPath q m).messages
        freeList := (s.returnPath q m).freeList
        retired := (s.returnPath q m).retired
        parityErrors := (s.returnPath q m).parityErrors } := by
  unfold returnPath
  rw [settleReturn_frame]; rfl

@[simp] theorem returnPath_pending (q : QueueNo) (m : CellNo) : (s.returnPath q m).pending = s.pending :=
  (congrArg State.pending (returnPath_frame s q m)).trans rfl
@[simp] theorem returnPath_device (q : QueueNo) (m : CellNo) : (s.returnPath q m).device = s.device :=
  (congrArg State.device (returnPath_frame s q m)).trans rfl
@[simp] theorem returnPath_deviceLine (q : QueueNo) (m : CellNo) : (s.returnPath q m).deviceLine = s.deviceLine :=
  (congrArg State.deviceLine (returnPath_frame s q m)).trans rfl
@[simp] theorem returnPath_walk (q : QueueNo) (m : CellNo) : (s.returnPath q m).walk = s.walk :=
  (congrArg State.walk (returnPath_frame s q m)).trans rfl
@[simp] theorem returnPath_tickPeriod (q : QueueNo) (m : CellNo) : (s.returnPath q m).tickPeriod = s.tickPeriod :=
  (congrArg State.tickPeriod (returnPath_frame s q m)).trans rfl
@[simp] theorem returnPath_store (q : QueueNo) (m : CellNo) : (s.returnPath q m).store = s.store :=
  (congrArg State.store (returnPath_frame s q m)).trans rfl
@[simp] theorem returnPath_faultMarks (q : QueueNo) (m : CellNo) : (s.returnPath q m).faultMarks = s.faultMarks :=
  (congrArg State.faultMarks (returnPath_frame s q m)).trans rfl
@[simp] theorem returnPath_formatRetired (q : QueueNo) (m : CellNo) : (s.returnPath q m).formatRetired = s.formatRetired :=
  (congrArg State.formatRetired (returnPath_frame s q m)).trans rfl
@[simp] theorem returnPath_ports (q : QueueNo) (m : CellNo) : (s.returnPath q m).ports = s.ports :=
  (congrArg State.ports (returnPath_frame s q m)).trans rfl
@[simp] theorem returnPath_holdings (q : QueueNo) (m : CellNo) : (s.returnPath q m).holdings = s.holdings :=
  (congrArg State.holdings (returnPath_frame s q m)).trans rfl
@[simp] theorem returnPath_lastGranted (q : QueueNo) (m : CellNo) : (s.returnPath q m).lastGranted = s.lastGranted :=
  (congrArg State.lastGranted (returnPath_frame s q m)).trans rfl
@[simp] theorem returnPath_tick (q : QueueNo) (m : CellNo) : (s.returnPath q m).tick = s.tick :=
  (congrArg State.tick (returnPath_frame s q m)).trans rfl
@[simp] theorem returnPath_timeouts (q : QueueNo) (m : CellNo) : (s.returnPath q m).timeouts = s.timeouts :=
  (congrArg State.timeouts (returnPath_frame s q m)).trans rfl
@[simp] theorem returnPath_jobs (q : QueueNo) (m : CellNo) : (s.returnPath q m).jobs = s.jobs :=
  (congrArg State.jobs (returnPath_frame s q m)).trans rfl
@[simp] theorem returnPath_capture (q : QueueNo) (m : CellNo) : (s.returnPath q m).capture = s.capture :=
  (congrArg State.capture (returnPath_frame s q m)).trans rfl
@[simp] theorem returnPath_correctable (q : QueueNo) (m : CellNo) : (s.returnPath q m).correctable = s.correctable :=
  (congrArg State.correctable (returnPath_frame s q m)).trans rfl
@[simp] theorem returnPath_uncorrectable (q : QueueNo) (m : CellNo) : (s.returnPath q m).uncorrectable = s.uncorrectable :=
  (congrArg State.uncorrectable (returnPath_frame s q m)).trans rfl
@[simp] theorem returnPath_overflow (q : QueueNo) (m : CellNo) : (s.returnPath q m).overflow = s.overflow :=
  (congrArg State.overflow (returnPath_frame s q m)).trans rfl
@[simp] theorem returnPath_interfaces (q : QueueNo) (m : CellNo) : (s.returnPath q m).interfaces = s.interfaces :=
  (congrArg State.interfaces (returnPath_frame s q m)).trans rfl
@[simp] theorem returnPath_port (q : QueueNo) (m : CellNo) (r : Port) : (s.returnPath q m).port r = s.port r :=
  (congrArg (fun t => State.port t r) (returnPath_frame s q m)).trans rfl
@[simp] theorem returnPath_interface (q : QueueNo) (m : CellNo) (r : Port) : (s.returnPath q m).interface r = s.interface r :=
  (congrArg (fun t => State.interface t r) (returnPath_frame s q m)).trans rfl
@[simp] theorem returnPath_slot (q : QueueNo) (m : CellNo) (r : Port) (j : SlotNo) : (s.returnPath q m).slot r j = s.slot r j :=
  (congrArg (fun t => State.slot t r j) (returnPath_frame s q m)).trans rfl

/-! ## endHolding -/

theorem endHolding_frame (p : Port) (i : SlotNo) (m : CellNo) (q : QueueNo) :
    s.endHolding p i m q =
      { s with
        queues := (s.endHolding p i m q).queues
        notices := (s.endHolding p i m q).notices
        messages := (s.endHolding p i m q).messages
        freeList := (s.endHolding p i m q).freeList
        retired := (s.endHolding p i m q).retired
        parityErrors := (s.endHolding p i m q).parityErrors
        holdings := (s.endHolding p i m q).holdings
        timeouts := (s.endHolding p i m q).timeouts } := by
  unfold endHolding
  rw [returnPath_frame]; rfl

@[simp] theorem endHolding_pending (p : Port) (i : SlotNo) (m : CellNo) (q : QueueNo) : (s.endHolding p i m q).pending = s.pending :=
  (congrArg State.pending (endHolding_frame s p i m q)).trans rfl
@[simp] theorem endHolding_device (p : Port) (i : SlotNo) (m : CellNo) (q : QueueNo) : (s.endHolding p i m q).device = s.device :=
  (congrArg State.device (endHolding_frame s p i m q)).trans rfl
@[simp] theorem endHolding_deviceLine (p : Port) (i : SlotNo) (m : CellNo) (q : QueueNo) : (s.endHolding p i m q).deviceLine = s.deviceLine :=
  (congrArg State.deviceLine (endHolding_frame s p i m q)).trans rfl
@[simp] theorem endHolding_walk (p : Port) (i : SlotNo) (m : CellNo) (q : QueueNo) : (s.endHolding p i m q).walk = s.walk :=
  (congrArg State.walk (endHolding_frame s p i m q)).trans rfl
@[simp] theorem endHolding_tickPeriod (p : Port) (i : SlotNo) (m : CellNo) (q : QueueNo) : (s.endHolding p i m q).tickPeriod = s.tickPeriod :=
  (congrArg State.tickPeriod (endHolding_frame s p i m q)).trans rfl
@[simp] theorem endHolding_store (p : Port) (i : SlotNo) (m : CellNo) (q : QueueNo) : (s.endHolding p i m q).store = s.store :=
  (congrArg State.store (endHolding_frame s p i m q)).trans rfl
@[simp] theorem endHolding_faultMarks (p : Port) (i : SlotNo) (m : CellNo) (q : QueueNo) : (s.endHolding p i m q).faultMarks = s.faultMarks :=
  (congrArg State.faultMarks (endHolding_frame s p i m q)).trans rfl
@[simp] theorem endHolding_formatRetired (p : Port) (i : SlotNo) (m : CellNo) (q : QueueNo) : (s.endHolding p i m q).formatRetired = s.formatRetired :=
  (congrArg State.formatRetired (endHolding_frame s p i m q)).trans rfl
@[simp] theorem endHolding_ports (p : Port) (i : SlotNo) (m : CellNo) (q : QueueNo) : (s.endHolding p i m q).ports = s.ports :=
  (congrArg State.ports (endHolding_frame s p i m q)).trans rfl
@[simp] theorem endHolding_lastGranted (p : Port) (i : SlotNo) (m : CellNo) (q : QueueNo) : (s.endHolding p i m q).lastGranted = s.lastGranted :=
  (congrArg State.lastGranted (endHolding_frame s p i m q)).trans rfl
@[simp] theorem endHolding_tick (p : Port) (i : SlotNo) (m : CellNo) (q : QueueNo) : (s.endHolding p i m q).tick = s.tick :=
  (congrArg State.tick (endHolding_frame s p i m q)).trans rfl
@[simp] theorem endHolding_jobs (p : Port) (i : SlotNo) (m : CellNo) (q : QueueNo) : (s.endHolding p i m q).jobs = s.jobs :=
  (congrArg State.jobs (endHolding_frame s p i m q)).trans rfl
@[simp] theorem endHolding_capture (p : Port) (i : SlotNo) (m : CellNo) (q : QueueNo) : (s.endHolding p i m q).capture = s.capture :=
  (congrArg State.capture (endHolding_frame s p i m q)).trans rfl
@[simp] theorem endHolding_correctable (p : Port) (i : SlotNo) (m : CellNo) (q : QueueNo) : (s.endHolding p i m q).correctable = s.correctable :=
  (congrArg State.correctable (endHolding_frame s p i m q)).trans rfl
@[simp] theorem endHolding_uncorrectable (p : Port) (i : SlotNo) (m : CellNo) (q : QueueNo) : (s.endHolding p i m q).uncorrectable = s.uncorrectable :=
  (congrArg State.uncorrectable (endHolding_frame s p i m q)).trans rfl
@[simp] theorem endHolding_overflow (p : Port) (i : SlotNo) (m : CellNo) (q : QueueNo) : (s.endHolding p i m q).overflow = s.overflow :=
  (congrArg State.overflow (endHolding_frame s p i m q)).trans rfl
@[simp] theorem endHolding_interfaces (p : Port) (i : SlotNo) (m : CellNo) (q : QueueNo) : (s.endHolding p i m q).interfaces = s.interfaces :=
  (congrArg State.interfaces (endHolding_frame s p i m q)).trans rfl
@[simp] theorem endHolding_port (p : Port) (i : SlotNo) (m : CellNo) (q : QueueNo) (r : Port) : (s.endHolding p i m q).port r = s.port r :=
  (congrArg (fun t => State.port t r) (endHolding_frame s p i m q)).trans rfl
@[simp] theorem endHolding_interface (p : Port) (i : SlotNo) (m : CellNo) (q : QueueNo) (r : Port) : (s.endHolding p i m q).interface r = s.interface r :=
  (congrArg (fun t => State.interface t r) (endHolding_frame s p i m q)).trans rfl

/-! ## dropHolding -/

theorem dropHolding_frame (p : Port) (i : SlotNo) (m : CellNo) :
    s.dropHolding p i m =
      { s with
        freeList := (s.dropHolding p i m).freeList
        retired := (s.dropHolding p i m).retired
        parityErrors := (s.dropHolding p i m).parityErrors
        messages := (s.dropHolding p i m).messages
        holdings := (s.dropHolding p i m).holdings } := by
  unfold dropHolding
  rw [freeMessage_frame]; rfl

@[simp] theorem dropHolding_pending (p : Port) (i : SlotNo) (m : CellNo) : (s.dropHolding p i m).pending = s.pending :=
  (congrArg State.pending (dropHolding_frame s p i m)).trans rfl
@[simp] theorem dropHolding_device (p : Port) (i : SlotNo) (m : CellNo) : (s.dropHolding p i m).device = s.device :=
  (congrArg State.device (dropHolding_frame s p i m)).trans rfl
@[simp] theorem dropHolding_deviceLine (p : Port) (i : SlotNo) (m : CellNo) : (s.dropHolding p i m).deviceLine = s.deviceLine :=
  (congrArg State.deviceLine (dropHolding_frame s p i m)).trans rfl
@[simp] theorem dropHolding_walk (p : Port) (i : SlotNo) (m : CellNo) : (s.dropHolding p i m).walk = s.walk :=
  (congrArg State.walk (dropHolding_frame s p i m)).trans rfl
@[simp] theorem dropHolding_tickPeriod (p : Port) (i : SlotNo) (m : CellNo) : (s.dropHolding p i m).tickPeriod = s.tickPeriod :=
  (congrArg State.tickPeriod (dropHolding_frame s p i m)).trans rfl
@[simp] theorem dropHolding_store (p : Port) (i : SlotNo) (m : CellNo) : (s.dropHolding p i m).store = s.store :=
  (congrArg State.store (dropHolding_frame s p i m)).trans rfl
@[simp] theorem dropHolding_faultMarks (p : Port) (i : SlotNo) (m : CellNo) : (s.dropHolding p i m).faultMarks = s.faultMarks :=
  (congrArg State.faultMarks (dropHolding_frame s p i m)).trans rfl
@[simp] theorem dropHolding_formatRetired (p : Port) (i : SlotNo) (m : CellNo) : (s.dropHolding p i m).formatRetired = s.formatRetired :=
  (congrArg State.formatRetired (dropHolding_frame s p i m)).trans rfl
@[simp] theorem dropHolding_queues (p : Port) (i : SlotNo) (m : CellNo) : (s.dropHolding p i m).queues = s.queues :=
  (congrArg State.queues (dropHolding_frame s p i m)).trans rfl
@[simp] theorem dropHolding_ports (p : Port) (i : SlotNo) (m : CellNo) : (s.dropHolding p i m).ports = s.ports :=
  (congrArg State.ports (dropHolding_frame s p i m)).trans rfl
@[simp] theorem dropHolding_lastGranted (p : Port) (i : SlotNo) (m : CellNo) : (s.dropHolding p i m).lastGranted = s.lastGranted :=
  (congrArg State.lastGranted (dropHolding_frame s p i m)).trans rfl
@[simp] theorem dropHolding_tick (p : Port) (i : SlotNo) (m : CellNo) : (s.dropHolding p i m).tick = s.tick :=
  (congrArg State.tick (dropHolding_frame s p i m)).trans rfl
@[simp] theorem dropHolding_timeouts (p : Port) (i : SlotNo) (m : CellNo) : (s.dropHolding p i m).timeouts = s.timeouts :=
  (congrArg State.timeouts (dropHolding_frame s p i m)).trans rfl
@[simp] theorem dropHolding_jobs (p : Port) (i : SlotNo) (m : CellNo) : (s.dropHolding p i m).jobs = s.jobs :=
  (congrArg State.jobs (dropHolding_frame s p i m)).trans rfl
@[simp] theorem dropHolding_capture (p : Port) (i : SlotNo) (m : CellNo) : (s.dropHolding p i m).capture = s.capture :=
  (congrArg State.capture (dropHolding_frame s p i m)).trans rfl
@[simp] theorem dropHolding_correctable (p : Port) (i : SlotNo) (m : CellNo) : (s.dropHolding p i m).correctable = s.correctable :=
  (congrArg State.correctable (dropHolding_frame s p i m)).trans rfl
@[simp] theorem dropHolding_uncorrectable (p : Port) (i : SlotNo) (m : CellNo) : (s.dropHolding p i m).uncorrectable = s.uncorrectable :=
  (congrArg State.uncorrectable (dropHolding_frame s p i m)).trans rfl
@[simp] theorem dropHolding_overflow (p : Port) (i : SlotNo) (m : CellNo) : (s.dropHolding p i m).overflow = s.overflow :=
  (congrArg State.overflow (dropHolding_frame s p i m)).trans rfl
@[simp] theorem dropHolding_interfaces (p : Port) (i : SlotNo) (m : CellNo) : (s.dropHolding p i m).interfaces = s.interfaces :=
  (congrArg State.interfaces (dropHolding_frame s p i m)).trans rfl
@[simp] theorem dropHolding_notices (p : Port) (i : SlotNo) (m : CellNo) : (s.dropHolding p i m).notices = s.notices :=
  (congrArg State.notices (dropHolding_frame s p i m)).trans rfl
@[simp] theorem dropHolding_queue (p : Port) (i : SlotNo) (m : CellNo) (r : QueueNo) : (s.dropHolding p i m).queue r = s.queue r :=
  (congrArg (fun t => State.queue t r) (dropHolding_frame s p i m)).trans rfl
@[simp] theorem dropHolding_port (p : Port) (i : SlotNo) (m : CellNo) (r : Port) : (s.dropHolding p i m).port r = s.port r :=
  (congrArg (fun t => State.port t r) (dropHolding_frame s p i m)).trans rfl
@[simp] theorem dropHolding_interface (p : Port) (i : SlotNo) (m : CellNo) (r : Port) : (s.dropHolding p i m).interface r = s.interface r :=
  (congrArg (fun t => State.interface t r) (dropHolding_frame s p i m)).trans rfl
@[simp] theorem dropHolding_noticeUnit (p : Port) (i : SlotNo) (m : CellNo) (r : Port) : (s.dropHolding p i m).noticeUnit r = s.noticeUnit r :=
  (congrArg (fun t => State.noticeUnit t r) (dropHolding_frame s p i m)).trans rfl

/-! ## appendPortJob -/

theorem appendPortJob_frame (p : Port) (x : SettleState) :
    s.appendPortJob p x =
      { s with
        jobs := (s.appendPortJob p x).jobs } := by
  unfold appendPortJob; split <;> rfl

@[simp] theorem appendPortJob_pending (p : Port) (x : SettleState) : (s.appendPortJob p x).pending = s.pending :=
  (congrArg State.pending (appendPortJob_frame s p x)).trans rfl
@[simp] theorem appendPortJob_device (p : Port) (x : SettleState) : (s.appendPortJob p x).device = s.device :=
  (congrArg State.device (appendPortJob_frame s p x)).trans rfl
@[simp] theorem appendPortJob_deviceLine (p : Port) (x : SettleState) : (s.appendPortJob p x).deviceLine = s.deviceLine :=
  (congrArg State.deviceLine (appendPortJob_frame s p x)).trans rfl
@[simp] theorem appendPortJob_walk (p : Port) (x : SettleState) : (s.appendPortJob p x).walk = s.walk :=
  (congrArg State.walk (appendPortJob_frame s p x)).trans rfl
@[simp] theorem appendPortJob_tickPeriod (p : Port) (x : SettleState) : (s.appendPortJob p x).tickPeriod = s.tickPeriod :=
  (congrArg State.tickPeriod (appendPortJob_frame s p x)).trans rfl
@[simp] theorem appendPortJob_store (p : Port) (x : SettleState) : (s.appendPortJob p x).store = s.store :=
  (congrArg State.store (appendPortJob_frame s p x)).trans rfl
@[simp] theorem appendPortJob_faultMarks (p : Port) (x : SettleState) : (s.appendPortJob p x).faultMarks = s.faultMarks :=
  (congrArg State.faultMarks (appendPortJob_frame s p x)).trans rfl
@[simp] theorem appendPortJob_retired (p : Port) (x : SettleState) : (s.appendPortJob p x).retired = s.retired :=
  (congrArg State.retired (appendPortJob_frame s p x)).trans rfl
@[simp] theorem appendPortJob_formatRetired (p : Port) (x : SettleState) : (s.appendPortJob p x).formatRetired = s.formatRetired :=
  (congrArg State.formatRetired (appendPortJob_frame s p x)).trans rfl
@[simp] theorem appendPortJob_freeList (p : Port) (x : SettleState) : (s.appendPortJob p x).freeList = s.freeList :=
  (congrArg State.freeList (appendPortJob_frame s p x)).trans rfl
@[simp] theorem appendPortJob_messages (p : Port) (x : SettleState) : (s.appendPortJob p x).messages = s.messages :=
  (congrArg State.messages (appendPortJob_frame s p x)).trans rfl
@[simp] theorem appendPortJob_parityErrors (p : Port) (x : SettleState) : (s.appendPortJob p x).parityErrors = s.parityErrors :=
  (congrArg State.parityErrors (appendPortJob_frame s p x)).trans rfl
@[simp] theorem appendPortJob_queues (p : Port) (x : SettleState) : (s.appendPortJob p x).queues = s.queues :=
  (congrArg State.queues (appendPortJob_frame s p x)).trans rfl
@[simp] theorem appendPortJob_ports (p : Port) (x : SettleState) : (s.appendPortJob p x).ports = s.ports :=
  (congrArg State.ports (appendPortJob_frame s p x)).trans rfl
@[simp] theorem appendPortJob_holdings (p : Port) (x : SettleState) : (s.appendPortJob p x).holdings = s.holdings :=
  (congrArg State.holdings (appendPortJob_frame s p x)).trans rfl
@[simp] theorem appendPortJob_lastGranted (p : Port) (x : SettleState) : (s.appendPortJob p x).lastGranted = s.lastGranted :=
  (congrArg State.lastGranted (appendPortJob_frame s p x)).trans rfl
@[simp] theorem appendPortJob_tick (p : Port) (x : SettleState) : (s.appendPortJob p x).tick = s.tick :=
  (congrArg State.tick (appendPortJob_frame s p x)).trans rfl
@[simp] theorem appendPortJob_timeouts (p : Port) (x : SettleState) : (s.appendPortJob p x).timeouts = s.timeouts :=
  (congrArg State.timeouts (appendPortJob_frame s p x)).trans rfl
@[simp] theorem appendPortJob_capture (p : Port) (x : SettleState) : (s.appendPortJob p x).capture = s.capture :=
  (congrArg State.capture (appendPortJob_frame s p x)).trans rfl
@[simp] theorem appendPortJob_correctable (p : Port) (x : SettleState) : (s.appendPortJob p x).correctable = s.correctable :=
  (congrArg State.correctable (appendPortJob_frame s p x)).trans rfl
@[simp] theorem appendPortJob_uncorrectable (p : Port) (x : SettleState) : (s.appendPortJob p x).uncorrectable = s.uncorrectable :=
  (congrArg State.uncorrectable (appendPortJob_frame s p x)).trans rfl
@[simp] theorem appendPortJob_overflow (p : Port) (x : SettleState) : (s.appendPortJob p x).overflow = s.overflow :=
  (congrArg State.overflow (appendPortJob_frame s p x)).trans rfl
@[simp] theorem appendPortJob_interfaces (p : Port) (x : SettleState) : (s.appendPortJob p x).interfaces = s.interfaces :=
  (congrArg State.interfaces (appendPortJob_frame s p x)).trans rfl
@[simp] theorem appendPortJob_notices (p : Port) (x : SettleState) : (s.appendPortJob p x).notices = s.notices :=
  (congrArg State.notices (appendPortJob_frame s p x)).trans rfl
@[simp] theorem appendPortJob_queue (p : Port) (x : SettleState) (r : QueueNo) : (s.appendPortJob p x).queue r = s.queue r :=
  (congrArg (fun t => State.queue t r) (appendPortJob_frame s p x)).trans rfl
@[simp] theorem appendPortJob_port (p : Port) (x : SettleState) (r : Port) : (s.appendPortJob p x).port r = s.port r :=
  (congrArg (fun t => State.port t r) (appendPortJob_frame s p x)).trans rfl
@[simp] theorem appendPortJob_interface (p : Port) (x : SettleState) (r : Port) : (s.appendPortJob p x).interface r = s.interface r :=
  (congrArg (fun t => State.interface t r) (appendPortJob_frame s p x)).trans rfl
@[simp] theorem appendPortJob_noticeUnit (p : Port) (x : SettleState) (r : Port) : (s.appendPortJob p x).noticeUnit r = s.noticeUnit r :=
  (congrArg (fun t => State.noticeUnit t r) (appendPortJob_frame s p x)).trans rfl
@[simp] theorem appendPortJob_slot (p : Port) (x : SettleState) (r : Port) (j : SlotNo) : (s.appendPortJob p x).slot r j = s.slot r j :=
  (congrArg (fun t => State.slot t r j) (appendPortJob_frame s p x)).trans rfl
@[simp] theorem appendPortJob_message (p : Port) (x : SettleState) (k : CellNo) : (s.appendPortJob p x).message k = s.message k :=
  (congrArg (fun t => State.message t k) (appendPortJob_frame s p x)).trans rfl

/-! ## resetFromAttached -/

theorem resetFromAttached_frame (p : Port) :
    s.resetFromAttached p =
      { s with
        ports := (s.resetFromAttached p).ports
        queues := (s.resetFromAttached p).queues
        notices := (s.resetFromAttached p).notices
        interfaces := (s.resetFromAttached p).interfaces
        jobs := (s.resetFromAttached p).jobs } := by
  unfold resetFromAttached
  dsimp only
  generalize ht : (s.movePort p .down .attached).portResetEffects p = t
  have hf : t = { s with ports := t.ports, queues := t.queues, notices := t.notices, interfaces := t.interfaces } := by
    rw [← ht]; rfl
  split
  · have hj : t.jobs = s.jobs := (congrArg State.jobs hf).trans rfl
    rw [hj]; exact hf
  · rw [raisePortEvent_frame, appendPortJob_frame, hf]

@[simp] theorem resetFromAttached_pending (p : Port) : (s.resetFromAttached p).pending = s.pending :=
  (congrArg State.pending (resetFromAttached_frame s p)).trans rfl
@[simp] theorem resetFromAttached_device (p : Port) : (s.resetFromAttached p).device = s.device :=
  (congrArg State.device (resetFromAttached_frame s p)).trans rfl
@[simp] theorem resetFromAttached_deviceLine (p : Port) : (s.resetFromAttached p).deviceLine = s.deviceLine :=
  (congrArg State.deviceLine (resetFromAttached_frame s p)).trans rfl
@[simp] theorem resetFromAttached_walk (p : Port) : (s.resetFromAttached p).walk = s.walk :=
  (congrArg State.walk (resetFromAttached_frame s p)).trans rfl
@[simp] theorem resetFromAttached_tickPeriod (p : Port) : (s.resetFromAttached p).tickPeriod = s.tickPeriod :=
  (congrArg State.tickPeriod (resetFromAttached_frame s p)).trans rfl
@[simp] theorem resetFromAttached_store (p : Port) : (s.resetFromAttached p).store = s.store :=
  (congrArg State.store (resetFromAttached_frame s p)).trans rfl
@[simp] theorem resetFromAttached_faultMarks (p : Port) : (s.resetFromAttached p).faultMarks = s.faultMarks :=
  (congrArg State.faultMarks (resetFromAttached_frame s p)).trans rfl
@[simp] theorem resetFromAttached_retired (p : Port) : (s.resetFromAttached p).retired = s.retired :=
  (congrArg State.retired (resetFromAttached_frame s p)).trans rfl
@[simp] theorem resetFromAttached_formatRetired (p : Port) : (s.resetFromAttached p).formatRetired = s.formatRetired :=
  (congrArg State.formatRetired (resetFromAttached_frame s p)).trans rfl
@[simp] theorem resetFromAttached_freeList (p : Port) : (s.resetFromAttached p).freeList = s.freeList :=
  (congrArg State.freeList (resetFromAttached_frame s p)).trans rfl
@[simp] theorem resetFromAttached_messages (p : Port) : (s.resetFromAttached p).messages = s.messages :=
  (congrArg State.messages (resetFromAttached_frame s p)).trans rfl
@[simp] theorem resetFromAttached_parityErrors (p : Port) : (s.resetFromAttached p).parityErrors = s.parityErrors :=
  (congrArg State.parityErrors (resetFromAttached_frame s p)).trans rfl
@[simp] theorem resetFromAttached_holdings (p : Port) : (s.resetFromAttached p).holdings = s.holdings :=
  (congrArg State.holdings (resetFromAttached_frame s p)).trans rfl
@[simp] theorem resetFromAttached_lastGranted (p : Port) : (s.resetFromAttached p).lastGranted = s.lastGranted :=
  (congrArg State.lastGranted (resetFromAttached_frame s p)).trans rfl
@[simp] theorem resetFromAttached_tick (p : Port) : (s.resetFromAttached p).tick = s.tick :=
  (congrArg State.tick (resetFromAttached_frame s p)).trans rfl
@[simp] theorem resetFromAttached_timeouts (p : Port) : (s.resetFromAttached p).timeouts = s.timeouts :=
  (congrArg State.timeouts (resetFromAttached_frame s p)).trans rfl
@[simp] theorem resetFromAttached_capture (p : Port) : (s.resetFromAttached p).capture = s.capture :=
  (congrArg State.capture (resetFromAttached_frame s p)).trans rfl
@[simp] theorem resetFromAttached_correctable (p : Port) : (s.resetFromAttached p).correctable = s.correctable :=
  (congrArg State.correctable (resetFromAttached_frame s p)).trans rfl
@[simp] theorem resetFromAttached_uncorrectable (p : Port) : (s.resetFromAttached p).uncorrectable = s.uncorrectable :=
  (congrArg State.uncorrectable (resetFromAttached_frame s p)).trans rfl
@[simp] theorem resetFromAttached_overflow (p : Port) : (s.resetFromAttached p).overflow = s.overflow :=
  (congrArg State.overflow (resetFromAttached_frame s p)).trans rfl
@[simp] theorem resetFromAttached_slot (p : Port) (r : Port) (j : SlotNo) : (s.resetFromAttached p).slot r j = s.slot r j :=
  (congrArg (fun t => State.slot t r j) (resetFromAttached_frame s p)).trans rfl
@[simp] theorem resetFromAttached_message (p : Port) (k : CellNo) : (s.resetFromAttached p).message k = s.message k :=
  (congrArg (fun t => State.message t k) (resetFromAttached_frame s p)).trans rfl

/-! ## resetFromElsewhere -/

theorem resetFromElsewhere_frame (p : Port) :
    s.resetFromElsewhere p =
      { s with
        ports := (s.resetFromElsewhere p).ports
        queues := (s.resetFromElsewhere p).queues
        notices := (s.resetFromElsewhere p).notices
        interfaces := (s.resetFromElsewhere p).interfaces } := by
  unfold resetFromElsewhere
  dsimp only
  generalize ht : (s.movePort p .down (s.port p).settle).portResetEffects p = t
  have hf : t = { s with ports := t.ports, queues := t.queues, notices := t.notices, interfaces := t.interfaces } := by
    rw [← ht]; rfl
  split
  · exact hf
  · rw [raisePortEvent_frame, hf]

/-! ## flipBits -/

theorem flipBits_frame (c : CellNo) (w : WordNo) (f : Flips) :
    s.flipBits c w f =
      { s with
        store := (s.flipBits c w f).store } := by
  unfold flipBits; split <;> rfl

end Sys2Proof.Machine.State
end

