-- ==== Sys2Proof/Laws/Spec.lean ====
section
/-! SUPPORT. Laws/Spec.lean: for each shared operation, what it writes. A proof cites these and does not
unfold the operation. -/

namespace Sys2Proof.Machine

/-! ## Tables -/

theorem getElem_mapTable {α β : Type} {n : Nat} (f : α → β) (v : Vector α n) (i : Nat) (h : i < n) :
    (mapTable f v)[i] = f v[i] := by
  simp only [mapTable, Vector.getElem_mk, List.getElem_toArray, List.getElem_map, Vector.getElem_toList]

theorem getElem_mapTableIdx {α β : Type} {n : Nat} (f : Fin n → α → β) (v : Vector α n) (i : Nat) (h : i < n) :
    (mapTableIdx f v)[i] = f ⟨i, h⟩ v[i] := by
  simp [mapTableIdx]

/-! ## Message table -/

namespace MessageTable

theorem get?_put (t : MessageTable) (m k : CellNo) (r : Message) :
    (t.put m r).get? k = if m = k then some r else t.get? k := by
  induction t with
  | nil => simp [put, get?]
  | cons e rest ih =>
    obtain ⟨j, x⟩ := e
    unfold put
    split
    · rename_i h; subst h
      simp only [get?]
      split <;> rfl
    · rename_i hne
      split
      · simp only [get?]
      · simp only [get?, ih]
        split
        · rename_i hj; subst hj
          rw [if_neg hne]
        · rfl

theorem get?_drop (t : MessageTable) (m k : CellNo) :
    (t.drop m).get? k = if m = k then none else t.get? k := by
  induction t with
  | nil => simp [drop, get?]
  | cons e rest ih =>
    obtain ⟨j, x⟩ := e
    unfold drop at ih ⊢
    by_cases hj : j = m
    · subst hj
      simp only [List.filter, ne_eq, not_true_eq_false, decide_false]
      rw [ih]
      simp only [get?]
      split <;> rfl
    · simp only [List.filter, ne_eq, hj, not_false_eq_true, decide_true]
      simp only [get?, ih]
      split
      · rename_i h; subst h
        rw [if_neg (Ne.symm hj)]
      · rfl

end MessageTable

namespace State

variable (s : State)

theorem updateMessage_message (m k : CellNo) (f : Message → Message) :
    (s.updateMessage m f).message k = if m = k then (s.message k).map f else s.message k := by
  unfold updateMessage
  split
  · rename_i h
    split
    · rename_i e; subst e; rw [h]; rfl
    · rfl
  · rename_i r h
    show (s.messages.put m (f r)).get? k = _
    rw [MessageTable.get?_put]
    split
    · rename_i e; subst e; rw [h]; rfl
    · rfl

/-! ## Completion -/

/-- Completion with the discard mark clear writes outcome and results and makes the slot IDLE. -/
theorem complete_interface_same (p : Port) (o : OutcomeCode) (rs : Results)
    (h : (s.interface p).slot.discard = false) :
    (s.complete p o rs).interface p = { s.interface p with slot := .idle, outcome := o.word, results := rs } := by
  simp [complete, h, idleSlot, writeOutcome]

/-- Completion with the discard mark set makes the slot IDLE and writes nothing. -/
theorem complete_interface_discarded (p : Port) (o : OutcomeCode) (rs : Results)
    (h : (s.interface p).slot.discard = true) :
    (s.complete p o rs).interface p = { s.interface p with slot := .idle } := by
  simp [complete, h, idleSlot]

theorem complete_interface_other (p r : Port) (o : OutcomeCode) (rs : Results) (h : r ≠ p) :
    (s.complete p o rs).interface r = s.interface r := by
  unfold complete
  split <;> simp [idleSlot, writeOutcome, setInterface_interface_other _ _ _ _ h]

theorem setFlag_interface_other (p r : Port) (f : StickyFlag) (h : r ≠ p) :
    (s.setFlag p f).interface r = s.interface r := by
  unfold setFlag
  split
  · rfl
  · exact setInterface_interface_other _ _ _ _ h

/-! ## Grants -/

/-- A command that the next grant presents stands WAITING in its port's slot, and the search of the
round finds that port. -/
theorem presents_eq_some (p : Port) (c : CommandCode) (o : Operands) :
    s.presents p c = some o ↔
      s.granted = some (.port p) ∧ (s.interface p).slot.status = .waiting { code := c, operands := o } := by
  unfold presents
  split
  · rename_i hg
    cases hs : (s.interface p).slot.status with
    | idle => simp
    | waiting r =>
      obtain ⟨rc, ro⟩ := r
      simp only [hg, true_and, SlotStatus.waiting.injEq, CommandRecord.mk.injEq]
      split
      · rename_i e; simp [e]
      · rename_i e; simp [e]
    | running r => simp
  · rename_i hg; simp [hg]

/-- A command taken in a RUNNING part goes on to its own checks. -/
theorem takeCommand_running (p : Port) (c : CommandCode) (o : Operands) (body : Operands → State → State)
    (hd : s.device = .running) (hc : c ≠ .format) (h : s.presents p c = some o) :
    s.takeCommand p c body = body o (s.startCommand p c o) := by
  simp [takeCommand, h, deviceCheck, hd, hc]

@[simp] theorem startCommand_interface_same (p : Port) (c : CommandCode) (o : Operands) :
    (s.startCommand p c o).interface p =
      { s.interface p with
        slot := { (s.interface p).slot with status := .running { code := c, operands := o } } } := by
  simp [startCommand]

theorem startCommand_interface_other (p r : Port) (c : CommandCode) (o : Operands) (h : r ≠ p) :
    (s.startCommand p c o).interface r = s.interface r := by
  simp [startCommand, setInterface_interface_other _ _ _ _ h]; rfl

theorem commandReads_clear (p : Port) (reads : List ControlEntry) (effect : State → State)
    (h : s.mismatch reads = none) : s.commandReads p reads effect = effect s := by
  simp [commandReads, h]

theorem commandReads_fault (p : Port) (reads : List ControlEntry) (effect : State → State) (e : ControlEntry)
    (h : s.mismatch reads = some e) :
    s.commandReads p reads effect = (s.halt e .engine).complete p .halted noResults := by
  simp [commandReads, h]

theorem requestReads_clear (a : Agent) (reads : List ControlEntry) (effect : State → State)
    (h : s.mismatch reads = none) : s.requestReads a reads effect = effect s := by
  simp [requestReads, h]

/-! ## Raises -/

theorem raise_noticeUnit_other (p r : Port) (n : Notice) (h : r ≠ p) : (s.raise p n).noticeUnit r = s.noticeUnit r := by
  unfold raise
  split
  · exact setNoticeUnit_noticeUnit_other _ _ _ _ h
  · rfl

theorem raise_noticeUnit_same (p : Port) (n : Notice) :
    (s.raise p n).noticeUnit p =
      if (s.port p).state = .attached then (s.noticeUnit p).taking n else s.noticeUnit p := by
  unfold raise
  split <;> simp

/-! ## Queue lists -/

/-- The queue whose list changes: its list, and low armed where the change is evaluated. -/
theorem changeList_queue_same (q : QueueNo) (l : List CellNo) :
    (s.changeList q l).queue q =
      { s.queue q with
        list := l
        lowArmed := if (s.queue q).evaluated then (s.queue q).armedAfter (s.queue q).queued l.length
          else (s.queue q).lowArmed } := by
  unfold changeList
  dsimp only
  split <;> simp

theorem changeList_queue_other (q r : QueueNo) (l : List CellNo) (h : r ≠ q) :
    (s.changeList q l).queue r = s.queue r := by
  unfold changeList
  dsimp only
  split <;> simp [setQueue_queue_other _ _ _ _ h]

/-! ## Frees -/

theorem foldl_freeCell_freeList (l : List CellNo) :
    (l.foldl freeCell s).freeList = s.freeList ++ l.filter (fun c => !s.marked c) := by
  induction l generalizing s with
  | nil => simp
  | cons c l ih =>
    have hm : ∀ d, (s.freeCell c).marked d = s.marked d := by
      intro d; unfold marked; rw [freeCell_frame]
    rw [List.foldl_cons, ih]
    simp only [hm, List.filter]
    cases h : s.marked c <;> simp [freeCell, h, appendCell, retireCell, writeEntry]

/-- A free appends the unmarked cells of the message to the free list in cell-list order (R9). -/
theorem freeMessage_freeList (m : CellNo) :
    (s.freeMessage m).freeList = s.freeList ++ (s.messageCells m).filter (fun c => !s.marked c) :=
  foldl_freeCell_freeList s _

theorem foldl_freeCell_retired (l : List CellNo) :
    (l.foldl freeCell s).retired = (l.filter s.marked).foldl (fun r c => insertCell c r) s.retired := by
  induction l generalizing s with
  | nil => rfl
  | cons c l ih =>
    have hm : (s.freeCell c).marked = s.marked := by
      funext d; unfold marked; rw [freeCell_frame]
    rw [List.foldl_cons, ih, hm]
    cases h : s.marked c <;> simp [freeCell, h, appendCell, retireCell, writeEntry]

/-- A free adds the marked cells of the message to the retired set (R9). -/
theorem freeMessage_retired (m : CellNo) :
    (s.freeMessage m).retired =
      ((s.messageCells m).filter s.marked).foldl (fun r c => insertCell c r) s.retired :=
  foldl_freeCell_retired s _

theorem foldl_freeCell_messages (l : List CellNo) : (l.foldl freeCell s).messages = s.messages := by
  induction l generalizing s with
  | nil => rfl
  | cons c l ih =>
    rw [List.foldl_cons, ih, freeCell_frame]

/-- A free removes the message's record and no other (R21). -/
theorem freeMessage_message (m k : CellNo) :
    (s.freeMessage m).message k = if m = k then none else s.message k := by
  unfold freeMessage message
  dsimp only
  rw [foldl_freeCell_messages]
  exact MessageTable.get?_drop _ _ _

theorem mem_insertCell (c k : CellNo) (l : List CellNo) : k ∈ insertCell c l ↔ k = c ∨ k ∈ l := by
  induction l with
  | nil => simp [insertCell]
  | cons x l ih =>
    unfold insertCell
    split
    · rename_i h; subst h; simp
    · split
      · simp
      · simp [ih, or_left_comm]

end State

end Sys2Proof.Machine
end

