-- ==== Sys2Proof/Laws/Grants.lean ====
section
/-! SUPPORT. Laws/Grants.lean: what a granted command's start and completion come to together, and the
validity of a handle in the words of R28. -/

namespace Sys2Proof.Machine.State

variable (s : State)

/-- Start and completion with no effect between: the command is answered and nothing else changes. -/
theorem startCommand_complete (p : Port) (c : CommandCode) (o : Operands) (x : OutcomeCode) (rs : Results)
    (h : (s.interface p).slot = { status := .waiting { code := c, operands := o }, discard := false }) :
    (s.startCommand p c o).complete p x rs = s.answered p x rs := by
  unfold complete
  rw [if_neg (by simp [h])]
  simp [idleSlot, writeOutcome, startCommand, answered, PortInterface.afterCompletion, setInterface, interface,
    CommandSlot.idle, Vector.set_set]

/-! ## What a grant leaves to read -/

section Start

variable (p : Port) (c : CommandCode) (o : Operands)

@[simp] theorem startCommand_granted : (s.startCommand p c o).lastGranted = .port p := (rfl)
@[simp] theorem startCommand_heldCells (r : Port) : (s.startCommand p c o).heldCells r = s.heldCells r := (rfl)
@[simp] theorem startCommand_freeSlot (r : Port) : (s.startCommand p c o).freeSlot r = s.freeSlot r := (rfl)
@[simp] theorem startCommand_validHandle (r : Port) (h : Handle) :
    (s.startCommand p c o).validHandle r h = s.validHandle r h := (rfl)
@[simp] theorem startCommand_messageCells (m : CellNo) : (s.startCommand p c o).messageCells m = s.messageCells m := (rfl)
@[simp] theorem startCommand_marked (k : CellNo) : (s.startCommand p c o).marked k = s.marked k := (rfl)
@[simp] theorem startCommand_mismatch (reads : List ControlEntry) :
    (s.startCommand p c o).mismatch reads = s.mismatch reads := (rfl)
@[simp] theorem startCommand_endMessage (q : QueueNo) (e : ListEnd) :
    (s.startCommand p c o).endMessage q e = s.endMessage q e := (rfl)
@[simp] theorem startCommand_holdsAny (r : Port) : (s.startCommand p c o).holdsAny r = s.holdsAny r := (rfl)

end Start

/-- An effect that leaves the interfaces alone, then the completion: the words are written, the slot is
IDLE, and the rest is the effect's. -/
theorem complete_of_effect (t : State) (p : Port) (c : CommandCode) (o : Operands) (x : OutcomeCode) (rs : Results)
    (h : (s.interface p).slot = { status := .waiting { code := c, operands := o }, discard := false })
    (hi : t.interfaces = (s.startCommand p c o).interfaces) :
    t.complete p x rs =
      { t with interfaces := s.interfaces.set p ((s.interface p).afterCompletion x rs) } := by
  have hp : t.interface p = (s.startCommand p c o).interface p := by simp only [interface, hi]
  unfold complete
  rw [if_neg (by rw [hp]; simp [h])]
  simp [idleSlot, writeOutcome, startCommand, PortInterface.afterCompletion, setInterface, interface,
    CommandSlot.idle, Vector.set_set, hi]

theorem presents_of_waits (p : Port) (c : CommandCode) (o : Operands) (h : s.waits p c o) :
    s.presents p c = some o := (s.presents_eq_some p c o).2 ⟨h.1, by rw [h.2]⟩

/-- A command whose grant comes in a RUNNING part goes on to its own checks. -/
theorem takeCommand_of_takes (p : Port) (c : CommandCode) (o : Operands) (body : Operands → State → State)
    (hc : c ≠ .format) (h : s.takes p c o) : s.takeCommand p c body = body o (s.startCommand p c o) :=
  s.takeCommand_running p c o body h.1 hc (s.presents_of_waits p c o h.2)

/-- A command refused by the device-state check is answered (R14). -/
theorem takeCommand_refused (p : Port) (c : CommandCode) (o : Operands) (body : Operands → State → State)
    (x : OutcomeCode) (hw : s.waits p c o) (hx : s.deviceCheck c = some x) :
    s.takeCommand p c body = s.answered p x noResults := by
  unfold takeCommand
  rw [s.presents_of_waits p c o hw]
  dsimp only
  rw [hx]
  exact s.startCommand_complete p c o x noResults hw.2

/-- A handle is valid exactly where it names a slot (R28). -/
theorem validHandle_eq_some (p : Port) (h : Handle) (i : SlotNo) :
    s.validHandle p h = some i ↔ s.names p h i := by
  have hlt := h.isLt
  have hi := i.isLt
  have hg := (s.slot p i).gen.isLt
  have he : ∀ x : Holding, x.isEmpty = false ↔ x ≠ .empty := by intro x; cases x <;> simp [Holding.isEmpty]
  unfold validHandle names
  dsimp only
  constructor
  · intro hs
    split at hs
    · rename_i hc
      have hsi : Handle.slot h = i := Option.some.inj hs
      rw [hsi] at hc
      refine ⟨?_, (he _).1 hc.1⟩
      have h1 : h.toNat % 32 = i.val := by rw [← hsi]; rfl
      have h2 : (s.slot p i).gen.toNat = h.toNat / 32 % 8 := by
        rw [hc.2]; simp [Handle.gen, BitVec.toNat_ofNat]
      omega
    · exact absurd hs (by simp)
  · rintro ⟨h1, h2⟩
    have hsi : Handle.slot h = i := Fin.ext (by show h.toNat % 32 = i.val; omega)
    rw [hsi, if_pos]
    refine ⟨(he _).2 h2, ?_⟩
    apply BitVec.eq_of_toNat_eq
    simp only [Handle.gen, BitVec.toNat_ofNat]
    omega

theorem validHandle_eq_none (p : Port) (h : Handle) : s.validHandle p h = none ↔ ∀ i, ¬ s.names p h i := by
  constructor
  · intro hn i hi
    rw [(s.validHandle_eq_some p h i).2 hi] at hn
    exact absurd hn (by simp)
  · intro hn
    cases hv : s.validHandle p h with
    | none => rfl
    | some i => exact absurd ((s.validHandle_eq_some p h i).1 hv) (hn i)

/-- The queue a queue field from 0 to 63 names. -/
theorem queue?_eq_some (o : Operands) (q : QueueNo) (h : q.val = o.queueField) : o.queue? = some q := by
  unfold Operands.queue?
  rw [dif_pos (by omega)]
  exact congrArg some (Fin.ext h.symm)

theorem queue?_eq_none (o : Operands) (h : 64 ≤ o.queueField) : o.queue? = none := by
  unfold Operands.queue?
  rw [dif_neg (by omega)]

theorem mismatch_eq_none (reads : List ControlEntry) : s.mismatch reads = none ↔ s.readsClear reads := by
  simp [mismatch, readsClear, List.find?_eq_none]

theorem mismatch_eq_some (reads : List ControlEntry) (e : ControlEntry) :
    s.mismatch reads = some e ↔ s.firstMismatch reads e := by
  unfold mismatch firstMismatch readsClear
  rw [List.find?_eq_some_iff_append]
  simp only [List.contains_eq_mem, decide_eq_true_eq, Bool.not_eq_eq_eq_not, Bool.not_true,
    decide_eq_false_iff_not]
  constructor
  · rintro ⟨h, as, bs, e1, e2⟩; exact ⟨as, bs, e1, e2, h⟩
  · rintro ⟨as, bs, e1, e2, h⟩; exact ⟨h, as, bs, e1, e2⟩

end Sys2Proof.Machine.State
end

