-- ==== Sys2Proof/Laws/Memory.lean ====
section
/-! SUPPORT. Laws/Memory.lean: the cell store as a memory: what a write leaves to read, and that every
memory operation keeps the canonical form. -/

namespace Sys2Proof.Machine

namespace Memory

@[simp] theorem read_nil (a : Nat) : Memory.read [] a = Memory.unlisted a := rfl

theorem read_list (m : Memory) (a b : Nat) (v : Byte) :
    (m.list a v).read b = if a = b then v else m.read b := by
  induction m with
  | nil => simp [Memory.list, Memory.read]
  | cons x rest ih =>
    obtain ⟨k, y⟩ := x
    unfold Memory.list
    split
    · rename_i h; subst h
      simp only [Memory.read]
      split <;> rfl
    · split
      · simp only [Memory.read]
      · rename_i hne _
        simp only [Memory.read, ih]
        split
        · rename_i hk; subst hk
          rw [if_neg hne]
        · rfl

theorem read_filter_ne (m : Memory) (a b : Nat) (h : a ≠ b) :
    Memory.read (m.filter (fun e => e.1 ≠ a)) b = m.read b := by
  induction m with
  | nil => rfl
  | cons x rest ih =>
    obtain ⟨k, y⟩ := x
    by_cases hk : k = a
    · subst hk
      simp only [Memory.read, List.filter]
      simpa [h] using ih
    · simp only [Memory.read, List.filter, hk, ne_eq, not_false_eq_true, decide_true]
      rw [ih]

theorem read_filter_self (m : Memory) (a : Nat) :
    Memory.read (m.filter (fun e => e.1 ≠ a)) a = Memory.unlisted a := by
  induction m with
  | nil => rfl
  | cons x rest ih =>
    obtain ⟨k, y⟩ := x
    by_cases hk : k = a
    · subst hk
      simpa [List.filter] using ih
    · simp only [Memory.read, List.filter, hk, ne_eq, not_false_eq_true, decide_true, if_false]
      exact ih

@[simp] theorem read_write_same (m : Memory) (a : Nat) (v : Byte) : (m.write a v).read a = v := by
  unfold Memory.write
  split
  · rename_i h; rw [read_filter_self, h]
  · simp [read_list]

theorem read_write_other (m : Memory) (a b : Nat) (v : Byte) (h : a ≠ b) : (m.write a v).read b = m.read b := by
  unfold Memory.write
  split
  · exact read_filter_ne m a b h
  · simp [read_list, h]

/-! ## The canonical form -/

theorem wf_cons (k : Nat) (y : Byte) (rest : Memory) :
    Memory.wf ((k, y) :: rest) = true ↔
      y ≠ Memory.unlisted k ∧ (∀ e ∈ rest, k < e.1) ∧ Memory.wf rest = true := by
  simp [Memory.wf, Nat.blt_eq, and_assoc]

theorem wf_filter (m : Memory) (a : Nat) (h : m.wf = true) : Memory.wf (m.filter (fun e => e.1 ≠ a)) = true := by
  induction m with
  | nil => rfl
  | cons x rest ih =>
    obtain ⟨k, y⟩ := x
    obtain ⟨h1, h2, h3⟩ := (wf_cons k y rest).1 h
    by_cases hk : k = a
    · simpa [List.filter, hk] using ih h3
    · simp only [List.filter, hk, ne_eq, not_false_eq_true, decide_true]
      exact (wf_cons _ _ _).2 ⟨h1, fun e he => h2 e (List.mem_of_mem_filter he), ih h3⟩

theorem mem_list (m : Memory) (a : Nat) (v : Byte) (e : Host.Cell) (h : e ∈ m.list a v) : e.1 = a ∨ e ∈ m := by
  induction m with
  | nil => simp [Memory.list] at h; exact Or.inl (by rw [h])
  | cons x rest ih =>
    obtain ⟨k, y⟩ := x
    unfold Memory.list at h
    split at h
    · rcases List.mem_cons.1 h with h | h
      · exact Or.inl (by rw [h])
      · exact Or.inr (List.mem_cons_of_mem _ h)
    · split at h
      · rcases List.mem_cons.1 h with h | h
        · exact Or.inl (by rw [h])
        · exact Or.inr h
      · rcases List.mem_cons.1 h with h | h
        · exact Or.inr (h ▸ List.mem_cons_self)
        · rcases ih h with h | h
          · exact Or.inl h
          · exact Or.inr (List.mem_cons_of_mem _ h)

theorem wf_list (m : Memory) (a : Nat) (v : Byte) (hv : v ≠ Memory.unlisted a) (h : m.wf = true) :
    (m.list a v).wf = true := by
  induction m with
  | nil => exact (wf_cons a v []).2 ⟨hv, by simp, rfl⟩
  | cons x rest ih =>
    obtain ⟨k, y⟩ := x
    obtain ⟨h1, h2, h3⟩ := (wf_cons k y rest).1 h
    unfold Memory.list
    split
    · rename_i hk; subst hk
      exact (wf_cons _ _ _).2 ⟨hv, h2, h3⟩
    · split
      · rename_i hlt
        refine (wf_cons _ _ _).2 ⟨hv, fun e he => ?_, h⟩
        rcases List.mem_cons.1 he with he | he
        · rw [he]; exact hlt
        · exact Nat.lt_trans hlt (h2 e he)
      · rename_i hne hnlt
        refine (wf_cons _ _ _).2 ⟨h1, fun e he => ?_, ih h3⟩
        rcases mem_list rest a v e he with he | he
        · rw [he]; omega
        · exact h2 e he

/-- A byte write keeps the canonical form. -/
theorem wf_write (m : Memory) (a : Nat) (v : Byte) (h : m.wf = true) : (m.write a v).wf = true := by
  unfold Memory.write
  split
  · exact wf_filter m a h
  · rename_i hv; exact wf_list m a v hv h

theorem wf_writeBytes (m : Memory) (a : Nat) (v : CellWord) (n : Nat) (h : m.wf = true) :
    (m.writeBytes a v n).wf = true := by
  induction n with
  | zero => exact h
  | succ n ih => exact wf_write _ _ _ ih

/-- A cell word write keeps the canonical form. -/
theorem wf_writeWord (m : Memory) (c : CellNo) (w : WordNo) (v : CellWord) (h : m.wf = true) :
    (m.writeWord c w v).wf = true := wf_write _ _ _ (wf_writeBytes _ _ _ _ h)

/-! ## Cell words -/

theorem read_writeBytes_other (m : Memory) (a b : Nat) (v : CellWord) (n : Nat) (h : b < a ∨ a + n ≤ b) :
    (m.writeBytes a v n).read b = m.read b := by
  induction n with
  | zero => rfl
  | succ n ih =>
    unfold Memory.writeBytes
    rw [read_write_other _ _ _ _ (by omega), ih (by omega)]

theorem read_writeBytes (m : Memory) (a : Nat) (v : CellWord) (n k : Nat) (h : k < n) :
    (m.writeBytes a v n).read (a + k) = v.extractLsb' (8 * k) 8 := by
  induction n with
  | zero => omega
  | succ n ih =>
    unfold Memory.writeBytes
    by_cases hk : k = n
    · subst hk; simp
    · rw [read_write_other _ _ _ _ (by omega), ih (by omega)]

/-- A byte outside a cell word's nine bytes reads as before. -/
theorem read_writeWord_other (m : Memory) (c : CellNo) (w : WordNo) (v : CellWord) (a : Nat)
    (hd : a < dataAddress c w 0 ∨ dataAddress c w 0 + 8 ≤ a) (hc : a ≠ checkAddress c w) :
    (m.writeWord c w v).read a = m.read a := by
  unfold Memory.writeWord
  rw [read_write_other _ _ _ _ (Ne.symm hc), read_writeBytes_other _ _ _ _ _ hd]

/-- A cell word read back after it is written. -/
@[simp] theorem readWord_writeWord_same (m : Memory) (c : CellNo) (w : WordNo) (v : CellWord) :
    (m.writeWord c w v).readWord c w = v := by
  have hc := c.isLt
  have hw := w.isLt
  have hb : ∀ k, k < 8 → (m.writeWord c w v).read (dataAddress c w k) = v.extractLsb' (8 * k) 8 := by
    intro k hk
    unfold Memory.writeWord
    rw [read_write_other _ _ _ _ (by simp only [checkAddress, dataAddress]; omega)]
    have : dataAddress c w k = dataAddress c w 0 + k := by simp only [dataAddress]; omega
    rw [this, read_writeBytes _ _ _ _ _ hk]
  have h8 : (m.writeWord c w v).read (checkAddress c w) = v.extractLsb' 64 8 := by
    unfold Memory.writeWord; simp
  unfold Memory.readWord
  rw [h8, hb 7 (by omega), hb 6 (by omega), hb 5 (by omega), hb 4 (by omega), hb 3 (by omega), hb 2 (by omega),
    hb 1 (by omega), hb 0 (by omega)]
  ext i hi
  simp only [BitVec.getElem_append, BitVec.getElem_extractLsb']
  repeat' split
  all_goals (rw [BitVec.getLsbD_eq_getElem (by omega)]; congr 1; omega)

/-- Another cell word reads as before. -/
theorem readWord_writeWord_other (m : Memory) (c d : CellNo) (w x : WordNo) (v : CellWord)
    (h : d ≠ c ∨ x ≠ w) : (m.writeWord c w v).readWord d x = m.readWord d x := by
  have hc := c.isLt
  have hd := d.isLt
  have hw := w.isLt
  have hx := x.isLt
  have hne : 8 * d.val + x.val ≠ 8 * c.val + w.val := by
    intro e
    rcases h with h | h
    · exact h (Fin.ext (by omega))
    · exact h (Fin.ext (by omega))
  have hb : ∀ k, k < 8 → (m.writeWord c w v).read (dataAddress d x k) = m.read (dataAddress d x k) := by
    intro k hk
    apply read_writeWord_other
    · simp only [dataAddress]; omega
    · simp only [dataAddress, checkAddress]; omega
  have h8 : (m.writeWord c w v).read (checkAddress d x) = m.read (checkAddress d x) := by
    apply read_writeWord_other
    · simp only [dataAddress, checkAddress]; omega
    · simp only [checkAddress]; omega
  unfold Memory.readWord
  rw [h8, hb 7 (by omega), hb 6 (by omega), hb 5 (by omega), hb 4 (by omega), hb 3 (by omega), hb 2 (by omega),
    hb 1 (by omega), hb 0 (by omega)]

end Memory

/-! ## The store of the state -/

namespace State

variable (s : State)

theorem setCellWord_wf (c : CellNo) (w : WordNo) (v : CellWord) (h : Memory.wf s.store = true) :
    Memory.wf (s.setCellWord c w v).store = true := Memory.wf_writeWord _ _ _ _ h

theorem flipBits_wf (c : CellNo) (w : WordNo) (f : Flips) (h : Memory.wf s.store = true) :
    Memory.wf (s.flipBits c w f).store = true := by
  unfold flipBits
  split
  · exact h
  · exact s.setCellWord_wf c w _ h

theorem formatCell_wf (c : CellNo) (f : Vector Flips 8) (h : Memory.wf s.store = true) :
    Memory.wf (s.formatCell c f).store = true := by
  unfold formatCell
  generalize WordNo.all = l
  induction l generalizing s with
  | nil => exact h
  | cons w l ih => exact ih _ (s.setCellWord_wf c w _ h)

@[simp] theorem cellWord_setCellWord_same (c : CellNo) (w : WordNo) (v : CellWord) :
    (s.setCellWord c w v).cellWord c w = v := Memory.readWord_writeWord_same _ _ _ _

theorem cellWord_setCellWord_other (c d : CellNo) (w x : WordNo) (v : CellWord) (h : d ≠ c ∨ x ≠ w) :
    (s.setCellWord c w v).cellWord d x = s.cellWord d x := Memory.readWord_writeWord_other _ _ _ _ _ _ h

/-- The memory of the machine after reset has the canonical form. -/
theorem reset_store_wf : Memory.wf State.reset.store = true := rfl

end State

end Sys2Proof.Machine
end

