-- ==== Sys2Proof/Laws/Registers.lean ====
section
/-! SUPPORT. Laws/Registers.lean: what a well-formed access of the row REGISTER_WRITE comes to, so that
no later proof walks through the map of offsets again. -/

namespace Sys2Proof.Machine.State

variable (s : State)

/-- What well-formedness says of an offset, on numbers. -/
theorem registerWrite_wellFormed (p : Port) (offset : WindowOffset) (data : Word) (st : BusStrobes)
    (h : (Instr.registerWrite p offset data st).wellFormed = true) :
    offset.toNat % 4 = 0 ∧ offset.toNat < 1024 ∧ (offset.extractLsb' 0 10).toNat = offset.toNat ∧
      accessHasOwnRow offset st = false := by
  simp only [Instr.wellFormed, Bool.and_eq_true, beq_iff_eq, Bool.not_eq_true', inDataWindow] at h
  obtain ⟨⟨h1, h2⟩, h3⟩ := h
  have h1' := congrArg BitVec.toNat h1
  have hlt := offset.isLt
  have h4 : offset.toNat < 1024 := by
    rw [BitVec.getLsbD, Nat.testBit_eq_decide_div_mod_eq, decide_eq_false_iff_not] at h2
    omega
  simp only [BitVec.extractLsb'_toNat, Nat.shiftRight_zero] at h1' ⊢
  refine ⟨by simpa using h1', h4, ?_, h3⟩
  omega

/-- A well-formed read of the row drives the register's word and has no other effect (R169). -/
theorem busAccess_read (p : Port) (offset : WindowOffset) (data : Word)
    (h : (Instr.registerWrite p offset data .read).wellFormed = true) :
    s.busAccess p offset data .read = s.drive p (s.registerWord p (offset.extractLsb' 0 10)) := by
  obtain ⟨h4, hlt, he, hr⟩ := registerWrite_wellFormed p offset data .read h
  have hd : reachesDataWindow offset = false := by
    unfold reachesDataWindow
    rw [BitVec.getLsbD, Nat.testBit_eq_decide_div_mod_eq, decide_eq_false_iff_not]
    omega
  simp only [accessHasOwnRow, readHasOwnRow, Bool.or_eq_false_iff, beq_eq_false_iff_ne, ne_eq,
    ← BitVec.toNat_inj, BitVec.toNat_ofNat] at hr
  obtain ⟨⟨h1, h2⟩, h3⟩ := hr
  unfold busAccess
  rw [hd]
  simp only [Bool.false_eq_true, if_false, registerRead, readEffect, he]
  rw [if_neg (by omega), if_neg (by omega), if_neg (by omega)]

end Sys2Proof.Machine.State
end

