-- ==== Sys2Proof/Laws/Slots.lean ====
section
/-! SUPPORT. Laws/Slots.lean: the held cells of a port after one slot is written, and the lowest EMPTY
slot. -/

namespace Sys2Proof.Machine

theorem Holding.isEmpty_eq_true (h : Holding) : h.isEmpty = true ↔ h = .empty := by
  cases h <;> simp [isEmpty]

theorem Holding.isEmpty_eq_false (h : Holding) : h.isEmpty = false ↔ h ≠ .empty := by
  cases h <;> simp [isEmpty]

theorem sum_map_set {α : Type} (f : α → Nat) :
    ∀ (l : List α) (i : Nat) (h : i < l.length) (x : α), ((l.set i x).map f).sum + f l[i] = (l.map f).sum + f x
  | [], i, h, _ => absurd h (by simp)
  | a :: l, 0, _, x => by simp; omega
  | a :: l, i + 1, h, x => by
    have := sum_map_set f l i (by simpa using h) x
    simp only [List.set_cons_succ, List.map_cons, List.sum_cons, List.getElem_cons_succ]
    omega

namespace State

variable (s : State)

/-- Writing one slot changes its port's held cells by the difference (R31). -/
theorem setSlot_heldCells_same (p : Port) (i : SlotNo) (x : Slot) :
    (s.setSlot p i x).heldCells p + (s.slot p i).holding.cellCount = s.heldCells p + x.holding.cellCount := by
  have e : (s.setSlot p i x).slots p = (s.slots p).set i.val x := by
    simp [setSlot, slots, Vector.toList_set]
  unfold heldCells
  rw [e]
  have := sum_map_set (fun x : Slot => x.holding.cellCount) (s.slots p) i.val (by simp [slots]) x
  simpa [slots, slot] using this

theorem setSlot_heldCells_other (p r : Port) (i : SlotNo) (x : Slot) (h : r ≠ p) :
    (s.setSlot p i x).heldCells r = s.heldCells r := by
  have : p.val ≠ r.val := fun e => h (Fin.ext e.symm)
  simp [heldCells, slots, setSlot, this]

/-- The held cells of a port depend on the holdings alone. -/
theorem heldCells_congr {s t : State} (h : t.holdings = s.holdings) (p : Port) : t.heldCells p = s.heldCells p := by
  simp only [heldCells, slots, h]

/-- Emptying a slot takes its cell count off the port's held cells (R27, R31). -/
theorem emptySlot_heldCells (p : Port) (i : SlotNo) :
    (s.emptySlot p i).heldCells p + (s.slot p i).holding.cellCount = s.heldCells p :=
  s.setSlot_heldCells_same p i { gen := (s.slot p i).gen + 1, holding := .empty }

/-- Filling an EMPTY slot adds the holding's cell count to the port's held cells (R26, R31). -/
theorem fillSlot_heldCells (p : Port) (i : SlotNo) (h : Holding) (he : (s.slot p i).holding = .empty) :
    (s.fillSlot p i h).heldCells p = s.heldCells p + h.cellCount := by
  have := s.setSlot_heldCells_same p i { s.slot p i with holding := h }
  rw [he] at this
  exact this

theorem emptySlot_slotEmptied (p : Port) (i : SlotNo) : s.slotEmptied (s.emptySlot p i) p i :=
  ⟨by simp [emptySlot], fun r j h => by simp [emptySlot, setSlot_slot_other _ _ _ _ _ _ h]⟩

/-- The lowest-numbered EMPTY slot (R26). -/
theorem freeSlot_eq_some (p : Port) (i : SlotNo) : s.freeSlot p = some i ↔ s.lowestEmpty p i := by
  unfold freeSlot lowestEmpty
  rw [List.find?_eq_some_iff_append]
  simp only [Holding.isEmpty_eq_true, Bool.not_eq_true', Holding.isEmpty_eq_false]
  have hp := List.pairwise_lt_finRange 32
  constructor
  · rintro ⟨h, as, bs, e, hn⟩
    refine ⟨h, fun j hj => hn j ?_⟩
    have hm : j ∈ List.finRange 32 := List.mem_finRange j
    rw [e] at hm hp
    rcases List.mem_append.1 hm with h1 | h1
    · exact h1
    · rcases List.mem_cons.1 h1 with h2 | h2
      · exact absurd hj (by rw [h2]; exact lt_irrefl _)
      · exact absurd hj (lt_asymm ((List.pairwise_cons.1 (List.pairwise_append.1 hp).2.1).1 j h2))
  · rintro ⟨h, hn⟩
    obtain ⟨as, bs, e⟩ := List.append_of_mem (List.mem_finRange i)
    refine ⟨h, as, bs, e, fun j hj => hn j ?_⟩
    rw [e] at hp
    exact (List.pairwise_append.1 hp).2.2 j hj i List.mem_cons_self

theorem freeSlot_eq_none (p : Port) : s.freeSlot p = none ↔ ∀ i, (s.slot p i).holding ≠ .empty := by
  unfold freeSlot
  rw [List.find?_eq_none]
  simp only [Holding.isEmpty_eq_true]
  exact ⟨fun h i => h i (List.mem_finRange i), fun h i _ => h i⟩

theorem freeSlot_of_empty (p : Port) (i : SlotNo) (h : (s.slot p i).holding = .empty) :
    ∃ j, s.freeSlot p = some j := by
  cases e : s.freeSlot p with
  | none => exact absurd h ((s.freeSlot_eq_none p).1 e i)
  | some j => exact ⟨j, rfl⟩

end State

end Sys2Proof.Machine
end

