-- ==== Sys2Proof/Laws/Returns.lean ====
section
/-! SUPPORT. Laws/Returns.lean: what a change of a queue's list, a free and a return leave, in the words of
Safety.lean. -/

namespace Sys2Proof.Machine.State

variable (s : State)

/-! ## Changes of a queued count -/

/-- The notice units after a change of queue `q`'s list: its crossings' QUEUE notice (R56, R58). -/
theorem changeList_noticeUnit (q : QueueNo) (l : List CellNo) (r : Port) :
    (s.changeList q l).noticeUnit r = s.afterCrossings q (s.crossingsTo q l.length) r := by
  unfold changeList afterCrossings crossingsTo
  dsimp only
  split
  · generalize (s.queue q).crossings (s.queue q).queued l.length = found
    unfold raiseQueue
    simp only [setQueue_queue_same]
    cases ht : (s.queue q).settings.target with
    | none => simp
    | some t =>
      simp only [Option.some.injEq]
      split
      · rename_i h0; simp [h0]
      · rename_i h0
        by_cases hr : r = t
        · subst hr
          rw [raise_noticeUnit_same]
          have h1 : ¬(found &&& (s.queue q).settings.conditions = 0#3) := h0
          simp [h1]
        · rw [raise_noticeUnit_other _ _ _ _ hr]
          simp [Ne.symm hr]
  · simp

/-- The list a queue has after a message is linked at an end (R46). -/
def linked (q : QueueNo) (e : ListEnd) (m : CellNo) : List CellNo :=
  if e = .head then m :: (s.queue q).list else (s.queue q).list ++ [m]

theorem link_eq (q : QueueNo) (e : ListEnd) (m : CellNo) : s.link q e m = s.changeList q (s.linked q e m) := by
  cases e <;> rfl

theorem linked_length (q : QueueNo) (e : ListEnd) (m : CellNo) :
    (s.linked q e m).length = (s.queue q).queued + 1 := by
  cases e <;> simp [linked, Queue.queued]

/-- The queue a message is linked to (R46, R57). -/
theorem link_queue_same (q : QueueNo) (e : ListEnd) (m : CellNo) :
    (s.link q e m).queue q =
      { s.queue q with list := s.linked q e m, lowArmed := s.armedTo q ((s.queue q).queued + 1) } := by
  rw [link_eq, changeList_queue_same, linked_length]; rfl

theorem link_queue_other (q x : QueueNo) (e : ListEnd) (m : CellNo) (h : x ≠ q) :
    (s.link q e m).queue x = s.queue x := by
  rw [link_eq, changeList_queue_other _ _ _ _ h]

theorem link_noticeUnit (q : QueueNo) (e : ListEnd) (m : CellNo) (r : Port) :
    (s.link q e m).noticeUnit r = s.afterCrossings q (s.crossingsTo q ((s.queue q).queued + 1)) r := by
  rw [link_eq, changeList_noticeUnit, linked_length]

/-! ## Frees -/

theorem mem_foldl_insertCell (l : List CellNo) : ∀ (r : List CellNo) (c : CellNo),
    c ∈ l.foldl (fun r c => insertCell c r) r ↔ c ∈ r ∨ c ∈ l := by
  induction l with
  | nil => simp
  | cons a l ih =>
    intro r c
    rw [List.foldl_cons, ih, mem_insertCell, List.mem_cons]
    tauto

theorem parityWithout_nil : s.parityWithout [] = s.parityErrors := by simp [parityWithout]

/-- Cells that go to the free list have their links written, and no other entry (R9, R165). -/
theorem foldl_freeCell_parityErrors (l : List CellNo) :
    (l.foldl freeCell s).parityErrors =
      s.parityWithout ((l.filter (fun c => !s.marked c)).map .link) := by
  induction l generalizing s with
  | nil => exact s.parityWithout_nil.symm
  | cons c l ih =>
    have hm : ∀ d, (s.freeCell c).marked d = s.marked d := by
      intro d; unfold marked; rw [freeCell_frame]
    rw [List.foldl_cons, ih]
    simp only [hm, parityWithout]
    cases h : s.marked c
    · simp only [freeCell, h, appendCell, writeEntry, List.filter_filter, Bool.false_eq_true, if_false,
        List.filter_cons, Bool.not_false, if_true, List.map_cons, List.contains_cons]
      refine List.filter_congr fun e _ => ?_
      by_cases he : e = .link c <;> simp [he]
    · simp [freeCell, h, retireCell]

theorem freeMessage_parityErrors (m : CellNo) :
    (s.freeMessage m).parityErrors =
      s.parityWithout (((s.messageCells m).filter (fun c => !s.marked c)).map .link) :=
  foldl_freeCell_parityErrors s _

/-- A free, in the words of R9, R21 and R165. -/
theorem freeMessage_freed (m : CellNo) : s.freed (s.freeMessage m) m := by
  refine ⟨s.freeMessage_freeList m, fun c => ?_, ?_, fun k hk => ?_, s.freeMessage_parityErrors m⟩
  · rw [freeMessage_retired, mem_foldl_insertCell, List.mem_filter]
  · rw [freeMessage_message, if_pos rfl]
  · rw [freeMessage_message, if_neg (Ne.symm hk)]

/-- Where a free, a crossing or a return reads only what two states share, it leaves the same. -/
theorem freed_of_eq {s s' t : State} {m : CellNo} (h : s'.freed t m) (hf : s'.freeList = s.freeList)
    (hr : s'.retired = s.retired) (hm : s'.messages = s.messages) (hk : s'.faultMarks = s.faultMarks)
    (hp : s'.parityErrors = s.parityErrors) : s.freed t m := by
  unfold freed parityWithout message messageCells marked at *
  simp only [message, hf, hr, hm, hk, hp] at h
  exact h

/-! ## The return path -/

/-- The disposition made is the table's (R110 to R114). The spill queue is another queue (R150). -/
theorem dispositionOf_eq (q : QueueNo) (m : CellNo) (r : Message) (d : Disposition) (hm : s.message m = some r)
    (hq : (s.queue q).settings.spill ≠ some q) (h : s.tableDisposition q r d) :
    (s.lowerOutstanding q).dispositionOf q m = d := by
  have hlow : ∀ x, ((s.lowerOutstanding q).queue x).state = (s.queue x).state ∧
      ((s.lowerOutstanding q).queue x).settings = (s.queue x).settings ∧
      (x ≠ q → (s.lowerOutstanding q).queue x = s.queue x) := by
    intro x
    by_cases hx : x = q
    · subst hx; simp [lowerOutstanding]
    · simp [lowerOutstanding, setQueue_queue_other _ _ _ _ hx]
  have hmsg : (s.lowerOutstanding q).message m = some r := hm
  unfold dispositionOf
  rw [hmsg]
  dsimp only [disposition]
  rw [(hlow q).1, (hlow q).2.1]
  cases d with
  | requeued =>
    obtain ⟨h1, h2, h3⟩ := h
    rw [h1]; simp [h2, h3]
  | spilled x =>
    obtain ⟨h1, h2, h3, h4, h5, h6⟩ := h
    have hx : x ≠ q := fun e => hq (by rw [h4, e])
    rw [h1]
    have h7 : ¬(r.redelivery < (s.queue q).settings.retryLimit) := by omega
    simp [h2, h7, h4, takesSpill, (hlow x).2.2 hx, h5, h6]
  | discarded =>
    rcases h with h | h | ⟨h1, h2⟩
    · cases hs : (s.queue q).state <;> simp_all
    · cases hs : (s.queue q).state <;> simp [h]
      cases (s.queue q).settings.spill <;> simp
    · cases hs : (s.queue q).state <;> simp
      rw [if_neg (by omega)]
      cases hsp : (s.queue q).settings.spill with
      | none => rfl
      | some x =>
        have hx : x ≠ q := fun e => hq (by rw [hsp, e])
        have := h2 x hsp
        simp only [takesSpill, (hlow x).2.2 hx, Bool.and_eq_true, beq_iff_eq, decide_eq_true_eq]
        rw [if_neg]
        rintro ⟨_, a, b⟩
        rcases this with c | c
        · exact c a
        · omega

/-- What a change of the queued count reads of a queue. -/
theorem crossingsTo_congr {s t : State} {q : QueueNo} (n : Nat) (hs : (t.queue q).state = (s.queue q).state)
    (hl : (t.queue q).list = (s.queue q).list) (hc : (t.queue q).settings = (s.queue q).settings)
    (ha : (t.queue q).lowArmed = (s.queue q).lowArmed) :
    t.crossingsTo q n = s.crossingsTo q n ∧ t.armedTo q n = s.armedTo q n := by
  simp [crossingsTo, armedTo, Queue.evaluated, Queue.crossings, Queue.armedAfter, Queue.crossesArrival,
    Queue.crossesHigh, Queue.crossesLow, Queue.queued, hs, hl, hc, ha]

theorem afterCrossings_congr {s t : State} {q : QueueNo} (found : Reasons) (r : Port)
    (hc : (t.queue q).settings = (s.queue q).settings) (hp : t.ports = s.ports) (hn : t.notices = s.notices) :
    t.afterCrossings q found r = s.afterCrossings q found r := by
  simp [afterCrossings, hc, port, noticeUnit, hp, hn]

@[simp] theorem lowerOutstanding_queue_same (q : QueueNo) :
    (s.lowerOutstanding q).queue q = { s.queue q with outstanding := (s.queue q).outstanding - 1 } := by
  simp [lowerOutstanding]

theorem lowerOutstanding_queue_other (q x : QueueNo) (h : x ≠ q) : (s.lowerOutstanding q).queue x = s.queue x := by
  simp [lowerOutstanding, setQueue_queue_other _ _ _ _ h]

theorem lowerSource_queue (source : Option QueueNo) (x : QueueNo) :
    (s.lowerSource source).queue x = s.lowered source x := by
  unfold lowerSource lowered
  cases source with
  | none => rfl
  | some q =>
    by_cases h : x = q
    · subst h; simp
    · simp [lowerOutstanding_queue_other _ _ _ h, Ne.symm h]

/-- The return path, in the words of R110 to R114. -/
theorem returnPath_returned (q : QueueNo) (m : CellNo) (r : Message) (d : Disposition) (hm : s.message m = some r)
    (hq : (s.queue q).settings.spill ≠ some q) (h : s.tableDisposition q r d) :
    s.returned (s.returnPath q m) q m r d ∧ ∀ x, (s.returnPath q m).noticeUnit x = s.afterReturn q d x := by
  have hd := s.dispositionOf_eq q m r d hm hq h
  unfold returnPath
  dsimp only
  rw [hd]
  generalize ht : s.lowerOutstanding q = t
  have hmt : ∀ k, t.message k = s.message k := fun k => by rw [← ht]; simp
  have htq : t.queue q = { s.queue q with outstanding := (s.queue q).outstanding - 1 } := by rw [← ht]; simp
  have hto : ∀ x, x ≠ q → t.queue x = s.queue x := fun x hx => by
    rw [← ht]; exact s.lowerOutstanding_queue_other q x hx
  have hp : t.ports = s.ports := by rw [← ht]; simp
  have hn : t.notices = s.notices := by rw [← ht]; simp
  have hfl : t.freeList = s.freeList := by rw [← ht]; simp
  have hre : t.retired = s.retired := by rw [← ht]; simp
  have hpe : t.parityErrors = s.parityErrors := by rw [← ht]; simp
  have hnu : ∀ x, t.noticeUnit x = s.noticeUnit x := fun x => by rw [← ht]; simp
  have hst : ∀ x, (t.queue x).state = (s.queue x).state ∧ (t.queue x).list = (s.queue x).list ∧
      (t.queue x).settings = (s.queue x).settings ∧ (t.queue x).lowArmed = (s.queue x).lowArmed := by
    intro x
    by_cases hx : x = q
    · subst hx; rw [htq]; exact ⟨rfl, rfl, rfl, rfl⟩
    · rw [hto x hx]; exact ⟨rfl, rfl, rfl, rfl⟩
  have hcr : ∀ x n, t.crossingsTo x n = s.crossingsTo x n ∧ t.armedTo x n = s.armedTo x n := fun x n =>
    crossingsTo_congr n (hst x).1 (hst x).2.1 (hst x).2.2.1 (hst x).2.2.2
  have hac : ∀ x f k, t.afterCrossings x f k = s.afterCrossings x f k := fun x f k =>
    afterCrossings_congr f k (hst x).2.2.1 hp hn
  have hql : ∀ x, (t.queue x).queued = (s.queue x).queued := fun x => by simp [Queue.queued, (hst x).2.1]
  have hu : ∀ (f : Message → Message) (v : State), v = t.updateMessage m f →
      (∀ x, v.queue x = t.queue x) ∧ (∀ x n, v.crossingsTo x n = t.crossingsTo x n ∧ v.armedTo x n = t.armedTo x n) ∧
      (∀ x g k, v.afterCrossings x g k = t.afterCrossings x g k) ∧ v.message m = some (f r) ∧
      (∀ k, k ≠ m → v.message k = s.message k) ∧ v.freeList = s.freeList ∧ v.retired = s.retired ∧
      v.parityErrors = s.parityErrors := by
    intro f v hv
    have hvq : ∀ x, v.queue x = t.queue x := fun x => by rw [hv]; simp
    refine ⟨hvq, fun x n => crossingsTo_congr n ?_ ?_ ?_ ?_, fun x g k => afterCrossings_congr g k ?_ ?_ ?_, ?_, ?_, ?_, ?_, ?_⟩
    · rw [hvq]
    · rw [hvq]
    · rw [hvq]
    · rw [hvq]
    · rw [hvq]
    · rw [hv]; simp
    · rw [hv]; simp
    · rw [hv, updateMessage_message, if_pos rfl, hmt, hm]; rfl
    · intro k hk; rw [hv, updateMessage_message, if_neg (Ne.symm hk), hmt]
    · rw [hv]; simpa using hfl
    · rw [hv]; simpa using hre
    · rw [hv]; simpa using hpe
  cases d with
  | requeued =>
    simp only [settleReturn]
    generalize hv : t.updateMessage m (fun r => { r with redelivery := r.redelivery + 1 }) = v
    obtain ⟨h1, h2, h3, h4, h5, h6, h7, h8⟩ := hu _ v hv.symm
    refine ⟨⟨?_, fun x hx => ?_, ?_, fun k hk => ?_, ?_, ?_, ?_⟩, fun x => ?_⟩
    · simp only [raiseRedelivered, setQueue_queue_same, link_queue_same, linked, h1, htq, (h2 _ _).2, (hcr _ _).2, if_true]
      rfl
    · simp only [raiseRedelivered, setQueue_queue_other _ _ _ _ hx, link_queue_other _ _ _ _ _ hx, h1, hto x hx]
    · simpa [raiseRedelivered] using h4
    · simpa [raiseRedelivered] using h5 k hk
    · simpa [raiseRedelivered] using h6
    · simpa [raiseRedelivered] using h7
    · simpa [raiseRedelivered] using h8
    · simp only [raiseRedelivered, setQueue_noticeUnit, link_noticeUnit, h3, hac, (h2 _ _).1, (hcr _ _).1, h1, hql]
      rfl
  | spilled x =>
    have hx : x ≠ q := fun e => hq (by rw [h.2.2.2.1, e])
    simp only [settleReturn]
    generalize hv : t.updateMessage m (fun r => { r with redelivery := 0, spilled := true }) = v
    obtain ⟨h1, h2, h3, h4, h5, h6, h7, h8⟩ := hu _ v hv.symm
    refine ⟨⟨?_, ?_, fun y hy hyx => ?_, ?_, fun k hk => ?_, ?_, ?_, ?_⟩, fun y => ?_⟩
    · simp only [link_queue_same, linked, h1, hto x hx, (h2 _ _).2, (hcr _ _).2]
      rfl
    · rw [link_queue_other _ _ _ _ _ (Ne.symm hx), h1, htq]
    · rw [link_queue_other _ _ _ _ _ hyx, h1, hto y hy]
    · simpa using h4
    · simpa using h5 k hk
    · simpa using h6
    · simpa using h7
    · simpa using h8
    · simp only [link_noticeUnit, h3, hac, (h2 _ _).1, (hcr _ _).1, h1, hql]
      rfl
  | discarded =>
    simp only [settleReturn]
    refine ⟨⟨?_, fun x hx => ?_, ?_⟩, fun x => ?_⟩
    · simp [raiseDiscarded, htq]
    · simp [raiseDiscarded, setQueue_queue_other _ _ _ _ hx, hto x hx]
    · refine freed_of_eq (s' := t) ?_ hfl hre (by rw [← ht]; simp) (by rw [← ht]; simp) hpe
      exact t.freeMessage_freed m
    · simp [raiseDiscarded, hnu]; rfl

end Sys2Proof.Machine.State
end

