-- ==== Sys2Proof/Laws/Words.lean ====
section
/-! SUPPORT. Laws/Words.lean: bytes and fields of a bus word. -/

namespace Sys2Proof.Machine

/-- Byte `j` of a merged word: the new data's where its strobe is active, else the old (R37, R170). -/
theorem mergeBytes_lane (st : Strobes) (o n : Word) (j : Fin 4) :
    (mergeBytes st o n).extractLsb' (8 * j.val) 8 =
      if st.getLsbD j.val then n.extractLsb' (8 * j.val) 8 else o.extractLsb' (8 * j.val) 8 := by
  have hj := j.isLt
  ext i hi
  unfold mergeBytes
  rw [BitVec.getElem_extractLsb']
  simp only [BitVec.getLsbD_append]
  have h4 : j.val = 0 ∨ j.val = 1 ∨ j.val = 2 ∨ j.val = 3 := by omega
  rcases h4 with h | h | h | h <;> rw [h]
  · rw [if_pos (by omega), show 8 * 0 + i = i from by omega]
    split <;> simp [hi]
  · rw [if_neg (by omega), if_pos (by omega), show 8 * 1 + i - 8 = i from by omega]
    split <;> simp [hi]
  · rw [if_neg (by omega), if_neg (by omega), if_pos (by omega), show 8 * 2 + i - 8 - 8 = i from by omega]
    split <;> simp [hi]
  · rw [if_neg (by omega), if_neg (by omega), if_neg (by omega), show 8 * 3 + i - 8 - 8 - 8 = i from by omega]
    split <;> simp [hi]

/-- A bit of a field written into an otherwise zero word. -/
theorem getLsbD_field (lo width n i : Nat) (hi : i < 32) :
    (field lo width n).getLsbD i = (decide (lo ≤ i) && decide (i - lo < width) && n.testBit (i - lo)) := by
  unfold field
  rw [BitVec.getLsbD_ofNat, Nat.testBit_mul_two_pow, Nat.testBit_mod_two_pow]
  simp [hi, Bool.and_assoc]

/-- A bit of a flag written into an otherwise zero word. -/
theorem getLsbD_flagBit (at' i : Nat) (b : Bool) (hi : i < 32) :
    (flagBit at' b).getLsbD i = (b && decide (i = at')) := by
  unfold flagBit
  split
  · rename_i h
    rw [getLsbD_field _ _ _ _ hi, h]
    by_cases e : i = at'
    · subst e; simp
    · have : ¬(at' ≤ i ∧ i - at' < 1) := by omega
      by_cases h1 : at' ≤ i
      · have h2 : ¬(i - at' < 1) := by omega
        simp [e, h1, h2]
      · simp [e, h1]
  · rename_i h
    simp [h]

end Sys2Proof.Machine
end

