-- ==== Sys2Proof/Tests/Slice0.lean ====
section
/-! SUPPORT. Slice0.lean: the author's own tests: what WellFormed refuses, what the commands do on a small
state, and for each obligation with hypotheses a state and operands that meet them. -/

set_option Elab.async false

namespace Sys2Proof.Tests

open Sys2Proof.Machine

/-! ## A small state -/

/-- Operands OP0 to OP3. -/
def ops (a b c d : Word) : Operands := #v[a, b, c, d, 0, 0, 0, 0]

/-- The operands of DEFINE QUEUE and MODIFY QUEUE, OP1 to OP5. -/
def settingOps (q limit sets times marks : Word) : Operands := #v[0, q, limit, sets, times, marks, 0, 0]

/-- A record of one cell. -/
def record (c : CellNo) : Message where
  cells := [c]
  length := 8
  tag := 0xBEEF
  origin := 1
  redelivery := 0
  damaged := false
  spilled := false

/-- Queue 5's settings: port 0 puts and takes, port 1 is the target. -/
def settings5 : QueueSettings where
  limit := 3
  putSet := 1
  takeSet := 1
  holdTime := 100
  retryLimit := 1
  spill := some 6
  target := some 1
  conditions := 7
  highMark := 2
  lowMark := 0
  level := 3

/-- Queue 5: message 0 queued, message 1 outstanding. -/
def queue5 : Queue := { Queue.cleared with state := .active, list := [0], outstanding := 1, settings := settings5 }

/-- The fields of port 0's slot 0. -/
def fields0 : TakenFields where
  source := some 5
  ordinal := 0
  holdTime := 100
  deadline := some 100

/-- Port 0's slot 0 holds message 1. -/
def slot0 : Slot := { gen := 0, holding := .taken 1 1 fields0 }

def entry0 : TimeoutEntry := { port := 0, slot := 0, gen := 0, deadline := 100, due := false }

def attached (admin : Bool) : PortEntry :=
  { state := .attached, settle := .attached, quota := 1024, admin := admin, ordinal := 1 }

/-- A RUNNING part with one queued and one TAKEN message. -/
def lively : State :=
  (({ State.reset with
      pending := [.tickAdvance]
      device := .running
      deviceLine := false
      tickPeriod := some .us1
      freeList := (List.finRange 4096).drop 2
      messages := [(0, record 0), (1, record 1)]
      ports := #v[attached true, attached false, attached false, attached false]
      timeouts := [entry0] } : State).setQueue 5 queue5).setSlot 0 0 slot0

/-- Port 0's command waits. -/
def asks (c : CommandCode) (o : Operands) (s : State) : State :=
  s.setInterface 0
    { s.interface 0 with slot := { status := .waiting { code := c, operands := o }, discard := false } }

/-- Queue 5 changed. -/
def with5 (f : Queue → Queue) (s : State) : State := s.setQueue 5 (f (s.queue 5))

/-- Port `p` moved. -/
def moved (p : Port) (x : PortState) (y : SettleState) (s : State) : State := s.movePort p x y

/-- Port 0 has selected a handle. -/
def selects (h : Handle) (s : State) : State := s.setInterface 0 { s.interface 0 with select := some h }

/-! ## WellFormed refuses -/

theorem test_wf_registerWrite :
    (Instr.registerWrite 0 0x01C 0 (.write 15)).wellFormed = true ∧
      (Instr.registerWrite 0 0x024 0 .read).wellFormed = true ∧ (Instr.registerWrite 0 0x044 0 .read).wellFormed = true := by
  decide
theorem test_wf_refuses_registerWrite_misaligned :
    (Instr.registerWrite 0 0x002 0 (.write 15)).wellFormed = false ∧
      (Instr.registerWrite 0 0x025 0 .read).wellFormed = false := by decide
theorem test_wf_refuses_registerWrite_data_window :
    ∀ a ∈ [BusStrobes.read, .write 15],
      (Instr.registerWrite 0 0x400 0 a).wellFormed = false ∧ (Instr.registerWrite 0 0x7FC 0 a).wellFormed = false := by
  decide
theorem test_wf_refuses_registerWrite_own_row :
    [0x020, 0x044, 0x048, 0x054].any (fun x => (Instr.registerWrite 0 x 0 (.write 15)).wellFormed) = false := by
  decide
theorem test_wf_refuses_registerRead_own_row :
    [0x040, 0x050, 0x06C].any (fun x => (Instr.registerWrite 0 x 0 .read).wellFormed) = false := by
  decide
theorem test_wf_refuses_windowRead_misaligned :
    (Instr.windowRead 0 0x3FE 0 none).wellFormed = false ∧ (Instr.windowRead 0 0x3FC 0 none).wellFormed = true := by
  decide
theorem test_wf_refuses_windowWrite_misaligned :
    (Instr.windowWrite 0 0x001 0 15 0 none).wellFormed = false ∧ (Instr.windowWrite 0 0 0 15 0 none).wellFormed = true := by
  decide

/-! ## Words of spec/11 written out -/

theorem test_decode_none : decodeTableWord 32 0 = none := by decide

theorem test_command_codes :
    [0x00, 0x01, 0x02, 0x03, 0x04, 0x05, 0x06, 0x07, 0x08, 0x09, 0x0A].map CommandCode.ofCode =
      [none, some .allocate, some .put, some .take, some .release, some .renew, some .giveBack, some .query,
        some .claim, some .unclaim, none] ∧
    [0x0F, 0x10, 0x11, 0x12, 0x13, 0x14, 0x15, 0x16, 0x17, 0x18, 0x19].map CommandCode.ofCode =
      [none, some .format, some .defineQueue, some .modifyQueue, some .purgeQueue, some .deleteQueue, some .setPort,
        some .fencePort, some .unfencePort, some .resetPort, none] := by
  decide

theorem test_handle : Handle.of 31 7 = 255 ∧ Handle.slot 0x61 = 1 ∧ Handle.gen 0x61 = 3 := by decide

/-- Present bits 18 and 31 of OP3; limit 4095, level 5, retry limit 15, hold time 65535. -/
theorem test_settings_operands :
    (settingOps 0 0xFFF 0x87055724 0xFFFF000F 0x07FF0800).settings =
      { limit := 4095, putSet := 4, takeSet := 2, holdTime := 65535, retryLimit := 15, spill := some 7
        target := some 1, conditions := 7, highMark := 2048, lowMark := 2047, level := 5 } := by
  decide

theorem test_status_word : State.reset.statusWord 2 = 0x00020100 ∧ lively.statusWord 3 = 0x00032100 := by
  decide +kernel

theorem test_notice_word :
    noticeWord (some { kind := .portEvent, source := 2, level := 7, reasons := 4 }) 8 = 0x88470203 ∧
      noticeWord none 3 = 0x03000000 := by
  decide

/-! ## One step each -/

/-- What port `p` reads as its outcome and result words after a step. -/
def answer (p : Port) : Host.Outcome State Fault Refusal → Option (Word × Results)
  | .next t => some ((t.interface p).outcome, (t.interface p).results)
  | .fault _ => none
  | .refused _ => none

/-- The state after a step. -/
def after : Host.Outcome State Fault Refusal → State
  | .next t => t
  | .fault _ => State.reset
  | .refused _ => State.reset

theorem test_allocate : answer 0 (exec (.allocate 0 none) (asks .allocate (ops 2 0 0 0) lively)) =
    some (1, #v[1, 0, 0, 0]) := by decide +kernel
theorem test_put_stale : answer 0 (exec (.put 0 none) (asks .put (ops 0x20 5 0 0) lively)) =
    some (0x0E, #v[0, 0, 0, 0]) := by decide +kernel
theorem test_take : answer 0 (exec (.take 0 none) (asks .take (ops 0 0x105 0 0) lively)) =
    some (1, #v[0x00010001, 0x00010008, 0xBEEF, 0]) := by decide +kernel
theorem test_release : answer 0 (exec (.release 0 none) (asks .release (ops 0 0 0 0) lively)) =
    some (1, #v[1, 0, 0, 0]) := by decide +kernel
theorem test_renew : answer 0 (exec (.renew 0) (asks .renew (ops 0 0 0 0) { lively with tick := 7 })) =
    some (1, #v[100, 107, 0, 0]) := by decide +kernel
theorem test_return : answer 0 (exec (.giveBack 0 none) (asks .giveBack (ops 0 0 0 0) lively)) =
    some (1, #v[1, 5, 0, 0]) := by decide +kernel
theorem test_query : answer 0 (exec (.query 0) (asks .query (ops 0 5 0 0) lively)) =
    some (1, #v[1, 0x00010001, 3, 0]) := by decide +kernel
theorem test_purge : answer 0 (exec (.purgeQueue 0) (asks .purgeQueue (ops 0 5 0 0) lively)) =
    some (1, #v[1, 0, 0, 0]) := by decide +kernel
theorem test_delete : answer 0 (exec (.deleteQueue 0) (asks .deleteQueue (ops 0 5 0 0) lively)) =
    some (1, #v[1, 1, 0, 0]) := by decide +kernel
theorem test_setPort_last_admin : answer 0 (exec (.setPort 0) (asks .setPort (ops 0 1024 0 0) lively)) =
    some (0x0F, #v[0, 0, 0, 0]) := by decide +kernel
theorem test_fence : ((after (exec (.fencePort 0) (asks .fencePort (ops 1 0 0 0) lively))).port 1).state = .fenced := by
  decide +kernel
theorem test_resetPort : ((after (exec (.resetPort 0) (asks .resetPort (ops 0 0 0 0) lively))).port 0).state =
    .reclaiming := by decide +kernel
theorem test_tick_due : (after (exec .tickAdvance { lively with tick := 99 })).timeouts =
    [{ entry0 with due := true }] := by decide +kernel
theorem test_step_from_reset : answer 0 (step (State.reset.withFetchWord 32 0)) = some (0, #v[0, 0, 0, 0]) := by
  decide +kernel
theorem test_commandWordWrite :
    ((after (exec (.commandWordWrite 2 0xFF03 1) State.reset)).interface 2).slot.status =
      .waiting { code := .take, operands := Vector.replicate 8 0 } := by decide +kernel

/-! ## The laws' premises are met together

`lively` meets every law, and steps. -/

theorem lively_slot (p : Port) (i : SlotNo) : lively.slot p i = if p = 0 ∧ i = 0 then slot0 else .cleared := by
  revert p i
  decide +kernel

theorem lively_holding {p : Port} {i : SlotNo} {f : TakenFields} (h : (lively.slot p i).holding.taken? = some f) :
    p = 0 ∧ i = 0 ∧ f = fields0 := by
  rw [lively_slot] at h
  split at h
  · rename_i e
    exact ⟨e.1, e.2, (Option.some.inj h).symm⟩
  · cases h

theorem lively_queue (q : QueueNo) : lively.queue q = if q = 5 then queue5 else .cleared := by
  revert q
  decide +kernel

theorem lively_steps : ∃ t, step lively = .next t := ⟨_, rfl⟩

theorem lively_store : Memory.wf lively.store = true := by decide

theorem lively_pool : lively.PoolLaw where
  ascending := by decide
  named := by decide
  unready := fun h => absurd h (by unfold State.unready; decide)
  unformatted := by decide
  formatting := fun h => absurd h (by decide)
  accounted := fun _ => by
    have hm : lively.messages.flatMap (fun e => e.2.cells) = (List.finRange 4096).take 2 := by
      have ht : (List.finRange 4096).take 2 = [0, 1] := by
        apply List.ext_getElem
        · simp
        · intro i h1 h2
          have h3 : i = 0 ∨ i = 1 := by
            have : i < 2 := h2
            omega
          rcases h3 with rfl | rfl <;> simp
      rw [ht]
      rfl
    have hf : lively.freeList = (List.finRange 4096).drop 2 := by
      rw [lively, State.setSlot_freeList, State.setQueue_freeList]
    have hr : lively.retired = [] := rfl
    unfold State.accountedCells
    rw [hm, hf, hr, List.append_nil]
    exact List.perm_append_comm.trans (by rw [List.take_append_drop])
  free := fun c _ => rfl
  retired := fun c h => absurd h (by intro h; cases h)

theorem lively_place : lively.PlaceLaw where
  placed := by
    have h : lively.placedMessages = [0, 1] := by decide +kernel
    rw [h]
    exact List.Perm.refl _
  counted := fun p i m h => by
    rw [lively_slot] at h ⊢
    split at h
    · rename_i e
      rw [if_pos e, ← Option.some.inj h]
      decide
    · cases h

theorem lively_quota : lively.QuotaLaw := by
  unfold State.QuotaLaw
  decide +kernel

theorem lively_away (p : Port) : lively.noticeUnit p = .cleared := by
  revert p
  decide +kernel

theorem lively_port : lively.PortLaw where
  line := by decide +kernel
  waiting := fun p r h => by
    have : ∀ p, (lively.interface p).slot.status = .idle := by decide +kernel
    rw [this] at h
    exact absurd h (by simp)
  claims := fun q p h => by
    rw [lively_queue] at h
    split at h <;> exact absurd h (by simp [queue5, Queue.cleared])
  away := fun p _ => lively_away p
  stack := fun p => by
    rw [lively_away]
    exact ⟨List.Pairwise.nil, by decide⟩
  pending := fun p => by
    rw [lively_away]
    exact ⟨List.Pairwise.nil, fun n h => by cases h⟩
  reclaiming := by decide +kernel
  endState := fun p e h => by cases h
  once := by decide
  settled := by decide +kernel
  unready := fun h => absurd h (by unfold State.unready; decide)
  adminSet := fun w h => by cases h
  admin := fun _ => ⟨0, by decide +kernel⟩

theorem lively_queues : lively.QueueLaw where
  outstanding := by decide +kernel
  occupancy := by decide +kernel
  settings := by decide +kernel
  undefined := by decide +kernel
  deleting := by decide +kernel
  purgeJob := fun q => by
    have h : ∀ q, (lively.queue q).state ≠ .purging := by decide +kernel
    exact ⟨fun e => absurd e (h q), fun e => by cases e⟩
  deleteJob := fun q => by
    have h : ∀ q, (lively.queue q).state ≠ .deleting := by decide +kernel
    exact ⟨fun e => absurd e (h q), fun e => by cases e⟩
  once := by decide
  unready := fun h => absurd h (by unfold State.unready; decide)
  records := fun p n h => by
    rw [lively_away] at h
    cases h

theorem lively_timeouts : lively.TimeoutLaw where
  held := fun e he => by
    have : e = entry0 := by simpa [lively, State.setSlot, State.setQueue] using he
    subst this
    exact ⟨fields0, by decide +kernel⟩
  listed := fun p i f d hf hd => by
    obtain ⟨hp, hi, rfl⟩ := lively_holding hf
    exact ⟨entry0, by decide, hp.symm, hi.symm⟩
  once := by decide
  live := fun p i f d hf hd => by
    obtain ⟨_, _, rfl⟩ := lively_holding hf
    decide
  ordered := List.pairwise_singleton _ _
  ahead := by decide

/-! ## Hypotheses of the other statements are met together -/

theorem test_hyp_StepTakesTheFrontCommand :
    lively.pending = .tickAdvance :: [] ∧ State.reset.pending = [] := ⟨rfl, rfl⟩

/-- One port's command in each device state. -/
theorem test_hyp_DeviceStateCheckComesFirst :
    (∀ c ∈ [CommandCode.allocate, .put, .take, .release, .renew, .giveBack, .query, .claim, .unclaim, .format,
        .defineQueue, .modifyQueue, .purgeQueue, .deleteQueue, .setPort, .fencePort, .unfencePort, .resetPort],
      (asks c (ops 0 0 0 0) { lively with device := .halted }).waits 0 c (ops 0 0 0 0) ∧
        (asks c (ops 0 0 0 0) { lively with device := .halted }).deviceCheck c = some .halted) ∧
    (asks .format (ops 1 1 0 0) lively).deviceCheck .format = some .notReady ∧
    (asks .put (ops 1 1 0 0) State.reset).deviceCheck .put = some .notReady := by
  decide +kernel

/-- The parity of an entry upset. -/
def upsetAt (e : ControlEntry) (s : State) : State := { s with parityErrors := [e] }

/-- The reads of a statement about a fault are met by their first mismatch. -/
theorem first {s : State} {reads : List ControlEntry} {e : ControlEntry} (h : s.mismatch reads = some e) :
    s.firstMismatch reads e := (s.mismatch_eq_some reads e).1 h

theorem clear {s : State} {reads : List ControlEntry} (h : s.mismatch reads = none) : s.readsClear reads :=
  (s.mismatch_eq_none reads).1 h

theorem named {s : State} {p : Port} {h : Handle} {i : SlotNo} (e : s.validHandle p h = some i) : s.names p h i :=
  (s.validHandle_eq_some p h i).1 e

theorem unnamed {s : State} {p : Port} {h : Handle} (e : s.validHandle p h = none) : ∀ i, ¬ s.names p h i :=
  (s.validHandle_eq_none p h).1 e

theorem test_hyp_fault_allocate :
    let s := asks .allocate (ops 16 0 0 0) (upsetAt (.link 17) lively)
    s.takes 0 .allocate (ops 16 0 0 0) ∧ allocateCheck s 0 (Operands.cellCount (ops 16 0 0 0)) = .ok (1, 2) ∧
      s.mismatch (s.takeCellsReads 16) = some (.link 17) := by
  decide +kernel

theorem test_hyp_fault_put :
    let s := asks .put (ops 0 5 0 0) (upsetAt (.record 0) lively)
    s.takes 0 .put (ops 0 5 0 0) ∧ putCheck s 0 (ops 0 5 0 0) = .ok (0, 5) ∧
      s.mismatch (putReads s 0 0 5 .tail) = some (.record 0) := by
  decide +kernel

theorem test_hyp_fault_take :
    let s := asks .take (ops 0 5 0 0) (upsetAt (.record 0) lively)
    s.takes 0 .take (ops 0 5 0 0) ∧ takeCheck s 0 (ops 0 5 0 0) = .ok (5, 1, 0) ∧
      ControlEntry.record 0 ∈ s.parityErrors := by
  decide +kernel

/-- A TAKE at the tail of a list of two reads the whole list (R47). -/
theorem test_hyp_fault_take_tail :
    let s := asks .take (ops 0 5 0 0) (upsetAt (.record 0) (with5 (fun d => { d with list := [0, 2] }) lively))
    s.takes 0 .take (ops 0 5 0 0) ∧ takeCheck s 0 (ops 0 5 0 0) = .ok (5, 1, 2) ∧ s.mismatch [.record 2] = none ∧
      s.heldCells 0 + (s.messageCells 2).length ≤ (s.port 0).quota ∧
      s.mismatch (s.unlinkReads 5 .tail) = some (.record 0) := by
  decide +kernel

theorem test_hyp_fault_release :
    let s := asks .release (ops 0 0 0 0) (upsetAt (.record 1) lively)
    s.takes 0 .release (ops 0 0 0 0) ∧ s.validHandle 0 0 = some 0 ∧ (s.slot 0 0).holding.message? = some 1 ∧
      s.mismatch (s.freeReads 1) = some (.record 1) := by
  decide +kernel

theorem test_hyp_fault_return :
    let s := asks .giveBack (ops 0 0 0 0) (upsetAt (.record 1) lively)
    s.takes 0 .giveBack (ops 0 0 0 0) ∧ s.validHandle 0 0 = some 0 ∧ (s.slot 0 0).holding = .taken 1 1 fields0 ∧
      s.mismatch (s.returnReads 5 1) = some (.record 1) := by
  decide +kernel

/-- The deadline of `lively`'s holding has passed and its command slots are idle. -/
def overdue : State := { lively with timeouts := [{ entry0 with due := true }] }

theorem test_hyp_fault_expiry :
    let s := upsetAt (.record 1) overdue
    s.granted = some .holdTimer ∧ s.dueEntry = some { entry0 with due := true } ∧
      (s.slot 0 0).holding = .taken 1 1 fields0 ∧ fields0.source = some 5 ∧
      s.mismatch (s.returnReads 5 1) = some (.record 1) := by
  decide +kernel

/-- Port 0 is RECLAIMING with its job at the head of the list. -/
def reclaiming (endState : SettleState) : State :=
  { moved 0 .reclaiming endState lively with jobs := [.port 0 endState] }

theorem test_hyp_fault_portJobStep :
    let s := upsetAt (.record 1) (reclaiming .fenced)
    s.granted = some .reclaimUnit ∧ s.jobs = .port 0 .fenced :: [] ∧ s.reclaimChoice 0 = some 0 ∧
      s.mismatch (s.reclaimReads (s.slot 0 0).holding) = some (.record 1) := by
  decide +kernel

/-- Queue 5 is PURGING or DELETING with its walk at the head of the list. -/
def walking (delete : Bool) : State :=
  { with5 (fun d => { d with state := if delete then .deleting else .purging }) lively with
    jobs := [if delete then .delete 5 else .purge 5] }

theorem test_hyp_fault_queueWalkStep :
    ∀ delete : Bool,
      let s := upsetAt (.record 0) (walking delete)
      s.granted = some .reclaimUnit ∧ s.jobs = (if delete then .delete 5 else .purge 5) :: [] ∧
        (s.queue 5).head? = some 0 ∧ s.mismatch (s.freeReads 0) = some (.record 0) := by
  decide +kernel

/-! ### Power and the reset lines -/

theorem test_hyp_DeviceResetLine : lively.deviceLine = false ∧ State.reset.deviceLine = true := by decide

/-- A port at each state the assertion finds, and each state of its command slot. -/
theorem test_hyp_PortResetAssertion :
    ((State.poweredOn 0xF).interface 3).line = true ∧
    ((lively.interface 3).line = false ∧ (lively.port 3).state ≠ .down ∧ (lively.interface 3).slot.status = .idle) ∧
    (((reclaiming .fenced).interface 0).line = false ∧ ((reclaiming .fenced).port 0).state ≠ .down) ∧
    (((moved 3 .fenced .fenced lively).interface 3).line = false ∧
      ((moved 3 .fenced .fenced lively).port 3).state ≠ .down) ∧
    (asks .put (ops 0 0 0 0) lively).interface 0 =
      { lively.interface 0 with
        slot := { status := .waiting { code := .put, operands := ops 0 0 0 0 }, discard := false } } ∧
    (((asks .format (ops 1 1 0 0) lively).startCommand 0 .format (ops 1 1 0 0)).interface 0).slot.status =
      .running { code := .format, operands := ops 1 1 0 0 } := by
  decide +kernel

/-- A port DOWN with a job, and one without for each settle state. -/
def downed (p : Port) (y : SettleState) (s : State) : State := (moved p .down y s).setLine p true

theorem test_hyp_PortResetRelease :
    (lively.interface 0).line = false ∧
    ((downed 0 .fenced (reclaiming .fenced)).interface 0).line = true ∧
    (downed 0 .fenced (reclaiming .fenced)).hasPortJob 0 = true ∧
    ((downed 3 .attached lively).interface 3).line = true ∧ (downed 3 .attached lively).hasPortJob 3 = false ∧
    ((downed 3 .attached lively).port 3).settle = .attached ∧
    ((downed 3 .fenced lively).interface 3).line = true ∧ (downed 3 .fenced lively).hasPortJob 3 = false ∧
    ((downed 3 .fenced lively).port 3).settle = .fenced := by
  decide +kernel

/-! ### FORMAT -/

/-- UNFORMATTED with the device reset line released. -/
def unformatted : State := { State.reset with deviceLine := false }

theorem test_hyp_FormatChecks :
    unformatted.device = .unformatted ∧ unformatted.deviceLine = false ∧
    [ops 0 1 0 0, ops 0xF 0 0 0, ops 0xF 2 0 0, ops 0xF 1001 0 0, ops 1 1 0 0, ops 8 10 0 0, ops 4 100 0 0,
        ops 2 1000 0 0].all (fun o => decide ((asks .format o unformatted).waits 0 .format o)) = true ∧
    Operands.adminSet (ops 0 1 0 0) = 0 ∧ Operands.adminSet (ops 0xF 0 0 0) ≠ 0 ∧
    Operands.period (ops 0xF 0 0 0) = 0 ∧ Operands.period (ops 0xF 2 0 0) = 2 ∧
    Operands.period (ops 0xF 1001 0 0) = 1001 ∧ Operands.adminSet (ops 8 10 0 0) = 8 ∧
    Operands.period (ops 1 1 0 0) = TickPeriod.us1.microseconds ∧
    Operands.period (ops 8 10 0 0) = TickPeriod.us10.microseconds ∧
    Operands.period (ops 4 100 0 0) = TickPeriod.us100.microseconds ∧
    Operands.period (ops 2 1000 0 0) = TickPeriod.us1000.microseconds := by
  decide +kernel

/-- A walk that port 0 started, at cell `n`. -/
def walkAt (n : Nat) (free : List CellNo) : State :=
  { unformatted with
    device := .formatting
    walk := some { issuer := 0, adminSet := 8, period := .us10, next := n }
    freeList := free }

/-- The first and the last cell: one that verifies, with the link of the list's tail sound or upset, and
one that fails. -/
theorem test_hyp_FormatWalk :
    (walkAt 0 []).device = .formatting ∧ (walkAt 4095 [4094]).walk =
      some { issuer := 0, adminSet := 8, period := .us10, next := (4095 : CellNo).val } ∧
    (∀ k : WordNo, classify (encodeWord 0 ^^^ (Vector.replicate 8 (0 : Flips))[k]) = .clean 0) ∧
    (upsetAt (.link 4094) (walkAt 4095 [4094])).freeList.getLast? = some 4094 ∧
    ControlEntry.link 4094 ∈ (upsetAt (.link 4094) (walkAt 4095 [4094])).parityErrors ∧
    (walkAt 0 []).parityErrors = [] ∧
    ¬∀ k : WordNo, classify (encodeWord 0 ^^^ (Vector.replicate 8 (1#72 <<< 64 : Flips))[k]) = .clean 0 := by
  refine ⟨rfl, rfl, fun k => ?_, by decide, by decide, rfl, fun h => ?_⟩
  · have : (Vector.replicate 8 (0 : Flips))[k] = 0 := by simp
    rw [this, encodeWord_zero]
    exact classify_zero
  · have h0 := h 0
    rw [encodeWord_zero] at h0
    exact absurd (classify_one_check_bit.symm.trans h0) (by simp)

theorem test_hyp_WalkCompletion :
    (walkAt 4096 []).device = .formatting ∧
    (walkAt 4096 []).walk = some { issuer := 0, adminSet := 8, period := .us10, next := 4096 } ∧
    ((walkAt 4096 []).interface 0).slot.discard = false ∧
    (((walkAt 4096 []).setInterface 0
      { (walkAt 4096 []).interface 0 with slot := { status := .idle, discard := true } }).interface 0).slot.discard =
        true := by
  decide +kernel

/-! ### Message commands -/

/-- A port with no EMPTY slot. -/
def full (s : State) : State :=
  { s with holdings := s.holdings.set 0 (Vector.replicate 32 { gen := 0, holding := .fresh 2 1 }) }

def quota0 (n : Nat) (s : State) : State := s.setPortEntry 0 { s.port 0 with quota := n }

theorem test_hyp_AllocateChecks :
    [0, 1, 2, 16, 17, 31].all
      (fun n => decide ((asks .allocate (ops n 0 0 0) lively).takes 0 .allocate (ops n 0 0 0))) = true ∧
    Operands.cellCount (ops 0 0 0 0) = 0 ∧ Operands.cellCount (ops 17 0 0 0) = 17 ∧
    Operands.cellCount (ops 1 0 0 0) = 1 ∧ Operands.cellCount (ops 16 0 0 0) = 16 ∧
    (asks .allocate (ops 1 0 0 0) (full lively)).takes 0 .allocate (ops 1 0 0 0) ∧
    (∀ i, ((full lively).slot 0 i).holding ≠ .empty) ∧
    (lively.slot 0 31).holding = .empty ∧
    ((quota0 16 lively).port 0).quota < (quota0 16 lively).heldCells 0 + 16 ∧
    (asks .allocate (ops 16 0 0 0) (quota0 16 lively)).takes 0 .allocate (ops 16 0 0 0) ∧
    (quota0 17 lively).heldCells 0 + 16 ≤ ((quota0 17 lively).port 0).quota ∧
    (asks .allocate (ops 16 0 0 0) { quota0 17 lively with freeList := [9] }).takes 0 .allocate (ops 16 0 0 0) := by
  decide +kernel

def sixteen : List CellNo := [2, 3, 4, 5, 6, 7, 8, 9, 10, 11, 12, 13, 14, 15, 16, 17]

theorem test_hyp_Allocate :
    let s := asks .allocate (ops 16 0 0 0) { quota0 17 lively with freeList := sixteen ++ [18] }
    s.takes 0 .allocate (ops 16 0 0 0) ∧ s.freeSlot 0 = some 1 ∧ s.heldCells 0 + 16 ≤ (s.port 0).quota ∧
      s.freeList = sixteen ++ [18] ∧ sixteen.length = 16 ∧ sixteen.head? = some 2 ∧
      s.mismatch (sixteen.map .link) = none := by
  decide +kernel

/-- Port 0 has a FRESH holding of 16 cells in slot 31 at generation 7: handle FFh. -/
def withFresh (s : State) : State :=
  { s with messages := s.messages.put 2 { record 2 with cells := sixteen } }.setSlot 0 31 { gen := 7, holding := .fresh 2 16 }

theorem test_hyp_PutChecks :
    (asks .put (ops 0xFF 5 0 0) lively).takes 0 .put (ops 0xFF 5 0 0) ∧ lively.validHandle 0 0xFF = none ∧
    (asks .put (ops 0 64 0 0) lively).takes 0 .put (ops 0 64 0 0) ∧ lively.validHandle 0 0 = some 0 ∧
    Operands.queueField (ops 0 64 0 0) = 64 ∧ Operands.queueField (ops 0 127 0 0) = 127 ∧
    (lively.queue 63).state = .undefined ∧ (63 : QueueNo).val = Operands.queueField (ops 0 63 0 0) ∧
    (asks .put (ops 0 63 0 0) lively).takes 0 .put (ops 0 63 0 0) ∧
    (∀ delete, (asks .put (ops 0 5 0 0) (walking delete)).takes 0 .put (ops 0 5 0 0)) ∧
    ((walking false).queue 5).state = .purging ∧ ((walking true).queue 5).state = .deleting ∧
    (lively.queue 5).state = .active ∧
    ((with5 (fun d => { d with settings := { d.settings with putSet := 0xE } }) lively).queue 5).settings.putSet.getLsbD
      0 = false ∧
    (lively.queue 5).settings.putSet.getLsbD 0 = true := by
  decide +kernel

theorem test_hyp_PutChecks_length :
    (withFresh lively).validHandle 0 0xFF = some 31 ∧ ((withFresh lively).slot 0 31).holding = .fresh 2 16 ∧
    [0, 1, 1024, 1025].all
      (fun n => decide ((asks .put (ops 0xFF 5 n 0) (withFresh lively)).takes 0 .put (ops 0xFF 5 n 0))) = true ∧
    Operands.length (ops 0xFF 5 1025 0) = 64 * 16 + 1 ∧ Operands.length (ops 0xFF 5 1024 0) = 64 * 16 ∧
    Operands.length (ops 0 5 0 0) = 0 ∧ Operands.length (ops 0 5 1 0) = 1 ∧
    (asks .put (ops 0 5 1 0) lively).takes 0 .put (ops 0 5 1 0) ∧
    (lively.slot 0 0).holding = .taken 1 1 fields0 ∧
    (((with5 (fun d => { d with settings := { d.settings with limit := 2 } }) lively).queue 5).settings.limit ≤
      ((with5 (fun d => { d with settings := { d.settings with limit := 2 } }) lively).queue 5).occupancy) := by
  decide +kernel

theorem test_hyp_PutFresh :
    let s := asks .put (ops 0xFF 0x105 1024 7) (withFresh lively)
    s.takes 0 .put (ops 0xFF 0x105 1024 7) ∧ s.validHandle 0 0xFF = some 31 ∧
      (5 : QueueNo).val = Operands.queueField (ops 0xFF 0x105 1024 7) ∧
      (s.queue 5).state = .active ∧ (s.queue 5).settings.putSet.getLsbD 0 = true ∧
      (s.slot 0 31).holding = .fresh 2 16 ∧ (s.queue 5).occupancy < (s.queue 5).settings.limit ∧
      (s.message 2).isSome = true ∧ s.mismatch (putReads s 0 31 5 .head) = none := by
  decide +kernel

theorem test_hyp_PutTaken :
    let s := asks .put (ops 0 5 0 0) lively
    s.takes 0 .put (ops 0 5 0 0) ∧ s.validHandle 0 0 = some 0 ∧ (5 : QueueNo).val = Operands.queueField (ops 0 5 0 0) ∧
      (s.queue 5).state = .active ∧ (s.queue 5).settings.putSet.getLsbD 0 = true ∧
      (s.slot 0 0).holding = .taken 1 1 fields0 ∧ Operands.length (ops 0 5 0 0) = 0 ∧
      (s.queue 5).occupancy < (s.queue 5).settings.limit ∧ s.message 1 = some (record 1) ∧
      s.mismatch (putReads s 0 0 5 .tail) = none := by
  decide +kernel

theorem test_hyp_TakeChecks :
    [5, 63, 64, 127].all (fun q => decide ((asks .take (ops 0 q 0 0) lively).takes 0 .take (ops 0 q 0 0))) = true ∧
    Operands.queueField (ops 0 64 0 0) = 64 ∧ (lively.queue 63).state = .undefined ∧
    (∀ delete, (asks .take (ops 0 5 0 0) (walking delete)).takes 0 .take (ops 0 5 0 0)) ∧
    ((with5 (fun d => { d with settings := { d.settings with takeSet := 0xE } }) lively).queue
      5).settings.takeSet.getLsbD 0 = false ∧
    (lively.queue 5).settings.takeSet.getLsbD 0 = true ∧
    ((with5 (fun d => { d with claimant := some 3 }) lively).queue 5).claimant = some 3 ∧
    ((with5 (fun d => { d with claimant := some 0 }) lively).queue 5).claimant = some 0 ∧
    (lively.queue 5).claimant = none ∧ ((with5 (fun d => { d with list := [] }) lively).queue 5).list = [] ∧
    (∀ i, ((full lively).slot 0 i).holding ≠ .empty) ∧ ((full lively).queue 5).list ≠ [] := by
  decide +kernel

theorem test_hyp_TakeChecks_quota :
    let s := asks .take (ops 0 0x105 0 0) (quota0 1 lively)
    s.takes 0 .take (ops 0 0x105 0 0) ∧ (s.slot 0 1).holding = .empty ∧
      Operands.listEnd (ops 0 0x105 0 0) = .head ∧ (s.queue 5).list.head? = some 0 ∧ s.message 0 = some (record 0) ∧
      s.mismatch [.record 0] = none ∧ (s.port 0).quota < s.heldCells 0 + (record 0).cells.length := by
  decide +kernel

/-- With a hold time, from either end. -/
theorem test_hyp_Take :
    let s := asks .take (ops 0 5 0 0) (quota0 2 lively)
    s.takes 0 .take (ops 0 5 0 0) ∧ (5 : QueueNo).val = Operands.queueField (ops 0 5 0 0) ∧
      (s.queue 5).state = .active ∧ (s.queue 5).settings.takeSet.getLsbD 0 = true ∧ (s.queue 5).claimant = none ∧
      Operands.listEnd (ops 0 5 0 0) = .tail ∧ (s.queue 5).list = [] ++ [0] ∧ s.freeSlot 0 = some 1 ∧
      s.message 0 = some (record 0) ∧ s.heldCells 0 + (record 0).cells.length ≤ (s.port 0).quota ∧
      s.mismatch (.record 0 :: s.unlinkReads 5 .tail) = none ∧ (s.queue 5).settings.holdTime ≠ 0 ∧
      ((with5 (fun d => { d with settings := { d.settings with holdTime := 0 } }) s).queue 5).settings.holdTime = 0 := by
  decide +kernel

theorem test_hyp_Release :
    (asks .release (ops 0x20 0 0 0) lively).takes 0 .release (ops 0x20 0 0 0) ∧ lively.validHandle 0 0x20 = none ∧
    (let s := asks .release (ops 0xFF 0 0 0) (withFresh lively)
     s.takes 0 .release (ops 0xFF 0 0 0) ∧ s.validHandle 0 0xFF = some 31 ∧
       (s.slot 0 31).holding.message? = some 2 ∧ s.mismatch (s.freeReads 2) = none) := by
  decide +kernel

/-- A holding of slot 0 whose fields are changed. -/
def held0 (f : TakenFields) (s : State) : State := s.setSlot 0 0 { gen := 0, holding := .taken 1 1 f }

def orphan0 : TakenFields := { fields0 with source := none, deadline := none }
def untimed0 : TakenFields := { fields0 with holdTime := 0, deadline := none }

/-- RENEW and RETURN find the same holdings. -/
theorem test_hyp_RenewAndReturn :
    (∀ c ∈ [CommandCode.renew, .giveBack],
      (asks c (ops 0x20 0 0 0) lively).takes 0 c (ops 0x20 0 0 0) ∧
      (asks c (ops 0xFF 0 0 0) (withFresh lively)).takes 0 c (ops 0xFF 0 0 0) ∧
      (asks c (ops 0 0 0 0) (held0 orphan0 lively)).takes 0 c (ops 0 0 0 0) ∧
      (asks c (ops 0 0 0 0) (held0 untimed0 lively)).takes 0 c (ops 0 0 0 0) ∧
      (asks c (ops 0 0 0 0) lively).takes 0 c (ops 0 0 0 0)) ∧
    lively.validHandle 0 0x20 = none ∧ (withFresh lively).validHandle 0 0xFF = some 31 ∧
    ((withFresh lively).slot 0 31).holding = .fresh 2 16 ∧
    (held0 orphan0 lively).validHandle 0 0 = some 0 ∧ ((held0 orphan0 lively).slot 0 0).holding = .taken 1 1 orphan0 ∧
    orphan0.source = none ∧ (held0 orphan0 lively).mismatch ((held0 orphan0 lively).freeReads 1) = none ∧
    untimed0.source ≠ none ∧ untimed0.holdTime = 0 ∧ fields0.source ≠ none ∧ fields0.holdTime ≠ 0 := by
  decide +kernel

/-- Queue 6 takes spills or does not. -/
def with6 (x : QueueState) (s : State) : State :=
  s.setQueue 6 { Queue.cleared with state := x, settings := { settings5 with limit := 1, spill := none } }

def redelivered1 (n : Nat) (s : State) : State := s.updateMessage 1 (fun r => { r with redelivery := n })

/-- Each disposition, at the boundary of the retry limit and of the spill queue's state. -/
theorem test_hyp_dispositions :
    lively.tableDisposition 5 (record 1) .requeued ∧
    (with6 .active lively).tableDisposition 5 { record 1 with redelivery := 1 } (.spilled 6) ∧
    lively.tableDisposition 5 { record 1 with redelivery := 1 } .discarded ∧
    (walking false).tableDisposition 5 (record 1) .discarded ∧
    lively.tableDisposition 5 { record 1 with spilled := true } .discarded := by
  refine ⟨by unfold State.tableDisposition; decide +kernel, by unfold State.tableDisposition; decide +kernel,
    Or.inr (Or.inr ⟨by decide +kernel, fun x hx => Or.inl ?_⟩), Or.inl (by decide +kernel), Or.inr (Or.inl rfl)⟩
  have : x = 6 := by
    have h : (lively.queue 5).settings.spill = some 6 := by decide +kernel
    rw [h] at hx
    exact (Option.some.inj hx).symm
  rw [this]
  decide +kernel

theorem test_hyp_Return :
    (let s := asks .giveBack (ops 0 0 0 0) lively
     s.takes 0 .giveBack (ops 0 0 0 0) ∧ s.validHandle 0 0 = some 0 ∧ (s.slot 0 0).holding = .taken 1 1 fields0 ∧
       fields0.source = some 5 ∧ s.message 1 = some (record 1) ∧ (s.queue 5).settings.spill ≠ some 5 ∧
       s.mismatch (s.returnReads 5 1) = none) ∧
    (let s := asks .giveBack (ops 0 0 0 0) (redelivered1 1 (with6 .active lively))
     s.takes 0 .giveBack (ops 0 0 0 0) ∧ s.message 1 = some { record 1 with redelivery := 1 } ∧
       s.mismatch (s.returnReads 5 1) = none) ∧
    (let s := asks .giveBack (ops 0 0 0 0) (redelivered1 1 lively)
     s.takes 0 .giveBack (ops 0 0 0 0) ∧ s.message 1 = some { record 1 with redelivery := 1 } ∧
       s.mismatch (s.returnReads 5 1) = none) := by
  decide +kernel

theorem test_hyp_Query :
    [ops 0 65 0 0, ops 0 5 2 0, ops 0 63 0 0, ops 0 5 1 0, ops 0 64 0 0, ops 0 64 1 0].all
      (fun o => decide ((asks .query o lively).takes 0 .query o)) = true ∧
    64 < Operands.queueField (ops 0 65 0 0) ∧ 1 < Operands.page (ops 0 5 2 0) ∧
    (63 : QueueNo).val = Operands.queueField (ops 0 63 0 0) ∧ Operands.page (ops 0 63 0 0) = 0 ∧
    Operands.page (ops 0 5 1 0) = 1 ∧ Operands.queueField (ops 0 64 1 0) = 64 ∧ lively.tickPeriod = some .us1 ∧
    (lively.port 0).state = .attached := by
  decide +kernel

theorem test_hyp_ClaimAndUnclaim :
    (∀ c ∈ [CommandCode.claim, .unclaim],
      [5, 63, 64, 127].all (fun q => decide ((asks c (ops 0 q 0 0) lively).takes 0 c (ops 0 q 0 0))) = true) ∧
    (∀ x ∈ [none, some 0, some 3],
      (asks .claim (ops 0 5 0 0) (with5 (fun d => { d with claimant := x }) lively)).takes 0 .claim (ops 0 5 0 0) ∧
      (asks .unclaim (ops 0 5 0 0) (with5 (fun d => { d with claimant := x }) lively)).takes 0 .unclaim
        (ops 0 5 0 0)) ∧
    (∀ delete, (asks .claim (ops 0 5 0 0) (walking delete)).takes 0 .claim (ops 0 5 0 0)) ∧
    (asks .claim (ops 0 5 0 0) (with5 (fun d => { d with settings := { d.settings with takeSet := 0 } }) lively)).takes 0
      .claim (ops 0 5 0 0) := by
  decide +kernel

/-! ### Administration -/

/-- Port 0 without the admin flag. -/
def noAdmin (s : State) : State := s.setPortEntry 0 { s.port 0 with admin := false }

/-- The checks that the four queue administration commands share. -/
theorem test_hyp_QueueAdmin :
    (∀ c ∈ [CommandCode.defineQueue, .modifyQueue, .purgeQueue, .deleteQueue, .setPort, .fencePort, .unfencePort],
      (asks c (ops 0 64 0 0) (noAdmin lively)).takes 0 c (ops 0 64 0 0) ∧
      ((noAdmin lively).port 0).admin = false ∧ (lively.port 0).admin = true ∧
      [5, 63, 64, 127].all (fun q => decide ((asks c (ops 0 q 0 0) lively).takes 0 c (ops 0 q 0 0))) = true ∧
      (∀ delete, (asks c (ops 0 5 0 0) (walking delete)).takes 0 c (ops 0 5 0 0))) := by
  decide +kernel

/-- Settings at the ends of their ranges, and just outside each. -/
theorem test_hyp_settings :
    QueueSettings.accepted (settingOps 63 1 0 0 0x00000001).settings 63 = true ∧
    QueueSettings.accepted (settingOps 63 4095 0 0 0x0FFE0FFF).settings 63 = true ∧
    QueueSettings.accepted (settingOps 63 0 0 0 0x00000001).settings 63 = false ∧
    QueueSettings.accepted (settingOps 63 1 0xBF000000 0 0x00000001).settings 63 = false ∧
    QueueSettings.accepted (settingOps 63 1 0 0 0).settings 63 = false ∧
    QueueSettings.accepted (settingOps 63 1 0 0 0x00010001).settings 63 = false := by
  decide

theorem test_hyp_DefineQueue :
    let o := settingOps 63 4095 0 0 0x0FFE0FFF
    (asks .defineQueue o lively).takes 0 .defineQueue o ∧ (63 : QueueNo).val = o.queueField ∧
      (lively.queue 63).state = .undefined ∧ o.settings.limit = 4095 ∧ o.settings.spill = none ∧
      o.settings.highMark = 4095 ∧ o.settings.lowMark = 4094 ∧
      (asks .defineQueue (settingOps 63 0 0 0 1) lively).takes 0 .defineQueue (settingOps 63 0 0 0 1) := by
  decide +kernel

/-- A limit equal to the occupancy is accepted and one below it is not. -/
theorem test_hyp_ModifyQueue :
    [1, 2].all (fun n => decide ((asks .modifyQueue (settingOps 5 n 0 0 1) lively).takes 0 .modifyQueue
      (settingOps 5 n 0 0 1))) = true ∧
    (lively.queue 5).occupancy = 2 ∧ (settingOps 5 2 0 0 1).settings.limit = 2 ∧
    (settingOps 5 1 0 0 1).settings.limit < (lively.queue 5).occupancy ∧
    QueueSettings.accepted (settingOps 5 2 0 0 1).settings 5 = true := by
  decide +kernel

theorem test_hyp_SetPort :
    [ops 4 0 0 0, ops 7 0 0 0, ops 3 4097 1 0, ops 0 0 1 0, ops 0 1024 0 0, ops 3 4096 0 0, ops 0 1 1 0].all
      (fun o => decide ((asks .setPort o lively).takes 0 .setPort o)) = true ∧
    Operands.target? (ops 4 0 0 0) = none ∧ Operands.target? (ops 3 0 0 0) = some 3 ∧
    Operands.quota (ops 3 4097 1 0) = 4097 ∧ Operands.quota (ops 0 0 1 0) < lively.heldCells 0 ∧
    (Operands.adminFlag (ops 0 1024 0 0) = false ∧ ∀ x, x ≠ 0 → (lively.port x).admin = false) ∧
    (Operands.quota (ops 3 4096 0 0) = 4096 ∧ lively.heldCells 3 ≤ 4096 ∧
      ((0 : Port) ≠ 3 ∧ (lively.port 0).admin = true ∧ (lively.port 0).settle = .attached)) ∧
    (Operands.quota (ops 0 1 1 0) = lively.heldCells 0 ∧ Operands.adminFlag (ops 0 1 1 0) = true) := by
  decide +kernel

/-- FENCE PORT and UNFENCE PORT: no such port, the issuer itself, and a target in each state. -/
theorem test_hyp_FenceAndUnfence :
    (∀ c ∈ [CommandCode.fencePort, .unfencePort],
      (asks c (ops 4 0 0 0) lively).takes 0 c (ops 4 0 0 0) ∧ (asks c (ops 0 0 0 0) lively).takes 0 c (ops 0 0 0 0) ∧
      ∀ x ∈ [PortState.attached, .fenced, .reclaiming, .down],
        (asks c (ops 3 0 0 0) (moved 3 x .attached lively)).takes 0 c (ops 3 0 0 0) ∧
        ((asks c (ops 3 0 0 0) (moved 3 x .attached lively)).port 3).state = x) ∧
    Operands.target? (ops 4 0 0 0) = none ∧ Operands.target? (ops 0 0 0 0) = some 0 ∧
    Operands.target? (ops 3 0 0 0) = some 3 := by
  decide +kernel

theorem test_hyp_ResetPort :
    let s := asks .resetPort (ops 0 0 0 0) lively
    s.takes 0 .resetPort (ops 0 0 0 0) ∧ (s.port 0).state = .attached ∧ s.hasPortJob 0 = false ∧ s.holdsAny 0 = true := by
  decide +kernel

/-! ### The register area and notices -/

theorem test_hyp_RegisterWrite :
    [0x000, 0x01C, 0x024, 0x034, 0x050, 0x3FC].all
      (fun offset => (Instr.registerWrite 3 offset 0 (.write 1)).wellFormed) = true ∧
    (0x01C : WindowOffset).toNat = 4 * (7 : Fin 8).val ∧ (0x000 : WindowOffset).toNat = 4 * (0 : Fin 8).val ∧
    0x20 ≤ (0x024 : WindowOffset).toNat ∧
    [0x000, 0x01C, 0x024, 0x028, 0x034, 0x044, 0x048, 0x060, 0x064, 0x068, 0x020, 0x038, 0x03C, 0x04C, 0x054, 0x05C,
      0x070, 0x3FC].all (fun offset => (Instr.registerWrite 3 offset 0 .read).wellFormed) = true ∧
    (0x034 : WindowOffset).toNat = 0x028 + 4 * (3 : Fin 4).val ∧
    ((selects 0 lively).interface 0).select ≠ none ∧ (lively.interface 3).select = none := by
  decide +kernel

/-- Reads of CW1, of a write-only register and of an unnamed offset; and a read at another row's offset,
served as that row is (log 16). -/
theorem test_registerRead :
    let s := { lively with
      capture := { valid := true, kind := .link, location := 977, word := 1, agent := .engine, access := .read } }
    let data := fun o => (((after (exec o s)).interface 0).readData, (after (exec o s)).capture.valid)
    data (.registerWrite 0 0x060 0 .read) = (0x00413D13, true) ∧ data (.registerWrite 0 0x020 0 .read) = (0, true) ∧
      data (.registerWrite 0 0x05C 0 .read) = (0, true) ∧
      data (.registerWrite 0 0x040 0 .read) = data (.statusRead 0) ∧
      data (.registerWrite 0 0x050 0 .read) = data (.noticeRead 0) ∧
      data (.registerWrite 0 0x06C 0 .read) = (3, false) ∧ data (.captureWord4Read 0) = (3, false) := by
  decide +kernel

/-- A word with one notice condition each (log 23). -/
theorem test_conditions :
    (Operands.settings #v[0, 0, 0, 0x100, 0, 0, 0, 0]).conditions = Reasons.arrival ∧
      (Operands.settings #v[0, 0, 0, 0x200, 0, 0, 0, 0]).conditions = Reasons.high ∧
      (Operands.settings #v[0, 0, 0, 0x400, 0, 0, 0, 0]).conditions = Reasons.low := by
  decide +kernel

theorem test_hyp_CommandWord :
    ((asks .put (ops 0 0 0 0) lively).interface 0).slot.status =
      .waiting { code := .put, operands := ops 0 0 0 0 } ∧
    (((asks .put (ops 0 0 0 0) lively).startCommand 0 .put (ops 0 0 0 0)).interface 0).slot.status =
      .running { code := .put, operands := ops 0 0 0 0 } ∧
    (∀ x ∈ [PortState.fenced, .reclaiming, .down, .attached],
      ((moved 3 x .attached lively).port 3).state = x ∧
      ((moved 3 x .attached lively).interface 3).slot.status = .idle) ∧
    CommandCode.ofCode 0x18 = some .resetPort ∧ CommandCode.ofCode 0x19 = none := by
  decide +kernel

theorem test_hyp_SelectAndControl :
    (lively.port 0).state ≠ .down ∧ ((State.poweredOn 8).port 3).state = .down ∧ (8#4).getLsbD 0 = false ∧
      (1#4).getLsbD 0 = true := by
  decide +kernel

/-- One pending record, and two beside a stack. -/
def unit1 : NoticeUnit where
  pendingSet := [{ kind := .queue, source := 5, level := 2, reasons := 1 },
    { kind := .portEvent, source := 1, level := 6, reasons := 2 }]
  active := [{ kind := .holdLost, source := 3, level := 3, reasons := 1 }]

/-- The same where the first pending record is no more urgent than the top of the stack. -/
def unit2 : NoticeUnit :=
  { unit1 with active := { kind := .holdLost, source := 3, level := 2, reasons := 1 } :: unit1.active }

theorem test_hyp_Notices :
    let s := lively.setNoticeUnit 0 unit1
    let n : Notice := { kind := .queue, source := 5, level := 2, reasons := 1 }
    (s.noticeUnit 0).PendingLaw ∧ (s.noticeUnit 0).StackLaw ∧ (s.noticeUnit 0).firstPending n ∧
      (s.noticeUnit 0).mayPush n ∧ unit2.StackLaw ∧ unit2.firstPending n ∧ ¬unit2.mayPush n ∧
      (s.port 0).state = .attached ∧ ((moved 3 .fenced .fenced s).port 3).state ≠ .attached := by
  have h1 : unit1.PendingLaw := by unfold NoticeUnit.PendingLaw; decide
  have h2 : unit1.StackLaw := by unfold NoticeUnit.StackLaw; decide
  have h3 : unit1.firstPending { kind := .queue, source := 5, level := 2, reasons := 1 } := by
    unfold NoticeUnit.firstPending Notice.precedes; decide
  have h4 : ∀ top, unit1.active.head? = some top → (2 : BitVec 3).toNat < top.level.toNat := by
    intro top h
    rw [← Option.some.inj h]
    decide
  have h5 : unit2.StackLaw := by unfold NoticeUnit.StackLaw; decide
  have h6 : ¬unit2.mayPush { kind := .queue, source := 5, level := 2, reasons := 1 } := fun h =>
    absurd (h _ rfl) (by decide)
  have he : (lively.setNoticeUnit 0 unit1).noticeUnit 0 = unit1 := by simp
  dsimp only
  rw [he]
  exact ⟨h1, h2, h3, h4, h5, h3, h6, by decide +kernel, by decide +kernel⟩

theorem test_hyp_Acknowledge :
    unit1.active = { kind := .holdLost, source := 3, level := 3, reasons := 1 } :: [] ∧
      (lively.noticeUnit 0).active = [] ∧ (lively.port 0).state ≠ .down ∧
      ((State.poweredOn 1).noticeUnit 0).active = [] ∧ ((State.poweredOn 1).port 0).state = .down := by
  decide +kernel

/-! ### The data window -/

theorem test_hyp_WindowRefusals :
    ((State.poweredOn 1).port 0).state = .down ∧ (lively.port 0).state ≠ .down ∧
      ((moved 0 .reclaiming .fenced lively).port 0).state = .reclaiming ∧
      ((moved 0 .fenced .fenced lively).port 0).state = .fenced ∧ (lively.interface 0).select = none ∧
      ((selects 0x20 lively).interface 0).select = some 0x20 ∧ (selects 0x20 lively).validHandle 0 0x20 = none ∧
      (selects 0 lively).validHandle 0 0 = some 0 ∧
      64 * ((selects 0 lively).slot 0 0).holding.cellCount ≤ (0x040 : DataOffset).toNat ∧
      (0x03C : DataOffset).toNat < 64 * ((selects 0 lively).slot 0 0).holding.cellCount ∧
      ((upsetAt (.record 1) (selects 0 lively)).slot 0 0).holding.message? = some 1 ∧
      ControlEntry.record 1 ∈ (upsetAt (.record 1) (selects 0 lively)).parityErrors := by
  decide +kernel

/-- The last word of the window's last cell for a holding of 16 cells, and its first. -/
theorem test_hyp_reachesCell :
    (selects 0xFF (withFresh lively)).reachesCell 0 0x3FC 2 17 7 ∧
      (selects 0 lively).reachesCell 0 0 1 1 0 := by
  refine ⟨⟨by decide, by decide +kernel, by decide, 0xFF, 31, _, by decide +kernel, named (by decide +kernel),
      by decide +kernel, rfl, by decide +kernel, by decide +kernel, by decide +kernel, by decide⟩,
    ⟨by decide, by decide +kernel, by decide, 0, 0, record 1, by decide +kernel, named (by decide +kernel),
      by decide +kernel, by decide +kernel, by decide +kernel, by decide +kernel, by decide +kernel, by decide⟩⟩

/-- A CLEAN, a CORRECTED and an UNCORRECTABLE word. -/
theorem test_hyp_classes :
    classify ((selects 0 lively).cellWord 1 0 ^^^ 0) = .clean 0 ∧
      classify ((selects 0 lively).cellWord 1 0 ^^^ (1#72 <<< 64)) = .corrected 0 ∧
      classify ((selects 0 lively).cellWord 1 0 ^^^ (3#72 <<< 64)) = .uncorrectable 0 ∧
      (selects 0 lively).message 1 = some (record 1) ∧ (selects 0 lively).capture.valid = false ∧
      ({ selects 0 lively with capture := State.linkRecord (.record 0) .engine } : State).capture.valid = true := by
  have h : (selects 0 lively).cellWord 1 0 = 0 := by decide +kernel
  rw [h]
  exact ⟨classify_zero, classify_one_check_bit, classify_two_check_bits, by decide +kernel, by decide, by decide⟩

/-! ### The hold timer and the reclaim unit -/

theorem test_hyp_TickAdvance : lively.device = .running ∧ State.reset.device ≠ .running := by decide

theorem test_hyp_Expiry :
    overdue.granted = some .holdTimer ∧ overdue.timeouts = [] ++ { entry0 with due := true } :: [] ∧
      (overdue.slot 0 0).holding = .taken 1 1 fields0 ∧ overdue.message 1 = some (record 1) ∧
      (overdue.queue 5).settings.spill ≠ some 5 ∧ overdue.mismatch (overdue.returnReads 5 1) = none ∧
      (overdue.queue 5).state = .active ∧ (record 1).spilled = false ∧
      (record 1).redelivery < (overdue.queue 5).settings.retryLimit := by
  decide +kernel

/-- Port 0 RECLAIMING with nothing left, with an orphan, and with a FRESH holding beside it. -/
theorem test_hyp_PortJobStep :
    (let s := { reclaiming .attached with holdings := State.reset.holdings }
     s.granted = some .reclaimUnit ∧ s.jobs = .port 0 .attached :: [] ∧ ∀ i, (s.slot 0 i).holding = .empty) ∧
    (let s := held0 orphan0 (reclaiming .attached)
     s.granted = some .reclaimUnit ∧ (s.slot 0 0).holding.message? = some 1 ∧
       (s.slot 0 0).holding.source? = none ∧ s.mismatch (s.freeReads 1) = none ∧
       ∀ j, j ≠ 0 → (s.slot 0 j).holding = .empty) ∧
    (let s := withFresh (reclaiming .fenced)
     s.granted = some .reclaimUnit ∧ s.jobs = .port 0 .fenced :: [] ∧ (s.slot 0 0).holding = .taken 1 1 fields0 ∧
       s.message 1 = some (record 1) ∧ (s.queue 5).settings.spill ≠ some 5 ∧
       s.mismatch (s.returnReads 5 1) = none ∧ (s.slot 0 31).holding ≠ .empty) := by
  decide +kernel

/-- The slots those steps choose. -/
theorem test_hyp_stepChooses :
    (withFresh (reclaiming .fenced)).stepChooses 0 0 ∧ (held0 orphan0 (reclaiming .attached)).stepChooses 0 0 ∧
      ((withFresh (reclaiming .fenced)).setSlot 0 0 .cleared).stepChooses 0 31 := by
  refine ⟨Or.inl ⟨fields0, by decide +kernel, fun j g h => ?_⟩, Or.inl ⟨orphan0, by decide +kernel, fun j g h => ?_⟩,
    Or.inr (by decide +kernel)⟩
  · have hn : ∀ j, j ≠ 0 → ((withFresh (reclaiming .fenced)).slot 0 j).holding.taken? = none := by decide +kernel
    by_cases hj : j = 0
    · subst hj
      have h0 : ((withFresh (reclaiming .fenced)).slot 0 0).holding.taken? = some fields0 := by decide +kernel
      rw [h0] at h
      rw [← Option.some.inj h]
      exact Or.inr ⟨rfl, le_refl _⟩
    · rw [hn j hj] at h
      cases h
  · have hn : ∀ j, j ≠ 0 → ((held0 orphan0 (reclaiming .attached)).slot 0 j).holding.taken? = none := by
      decide +kernel
    by_cases hj : j = 0
    · subst hj
      have h0 : ((held0 orphan0 (reclaiming .attached)).slot 0 0).holding.taken? = some orphan0 := by decide +kernel
      rw [h0] at h
      rw [← Option.some.inj h]
      exact Or.inr ⟨rfl, le_refl _⟩
    · rw [hn j hj] at h
      cases h

/-- A walk with one message left, and one with none. -/
theorem test_hyp_QueueWalkStep :
    ∀ delete : Bool,
      (walking delete).granted = some .reclaimUnit ∧
      (walking delete).jobs = (if delete then .delete 5 else .purge 5) :: [] ∧
      ((walking delete).queue 5).state = (if delete then .deleting else .purging) ∧
      ((walking delete).queue 5).list = 0 :: [] ∧ (walking delete).mismatch ((walking delete).freeReads 0) = none ∧
      ((with5 (fun d => { d with list := [] }) (walking delete)).queue 5).list = [] := by
  decide +kernel

/-- Two bits of a cell word at the ends of their range. -/
theorem test_hyp_SingleBitErrorsAreCorrectedAndDoubleDetected :
    ∃ i j : Nat, i < 72 ∧ j < 72 ∧ i ≠ j ∧ i = 0 ∧ j = 71 :=
  ⟨0, 71, by decide⟩

end Sys2Proof.Tests
end

section
/-! Proofs/DeviceState.lean: the device-state check of R14, and the one shape in which `exec` takes the
18 commands of the engine. -/

namespace Sys2Proof.Machine

/-! ## The table of R14, one equation per device state -/

namespace State

variable (s : State) (c : CommandCode)

theorem deviceCheck_of_halted (h : s.device = .halted) : s.deviceCheck c = some .halted := by
  simp [deviceCheck, h]

theorem deviceCheck_of_formatting (h : s.device = .formatting) : s.deviceCheck c = some .notReady := by
  simp [deviceCheck, h]

/-- An UNFORMATTED part goes on only with FORMAT, and only where the device reset line is released. -/
theorem deviceCheck_of_unformatted (h : s.device = .unformatted) :
    s.deviceCheck c = if s.deviceLine = false ∧ c = .format then none else some .notReady := by
  cases hl : s.deviceLine <;> simp [deviceCheck, h, hl]

/-- A RUNNING part goes on with every command but FORMAT. -/
theorem deviceCheck_of_running (h : s.device = .running) :
    s.deviceCheck c = if c = .format then some .notReady else none := by
  simp [deviceCheck, h]

end State

/-! ## What `exec` takes for each command of the engine -/

/-- The checks and effects that each command makes of its own, after the device-state check. -/
def CommandCode.body (p : Port) : CommandCode → Operands → State → State
  | .allocate => allocateBody p
  | .put => putBody p
  | .take => takeBody p
  | .release => releaseBody p
  | .renew => renewBody p
  | .giveBack => returnBody p
  | .query => queryBody p
  | .claim => claimBody p
  | .unclaim => unclaimBody p
  | .format => formatBody p
  | .defineQueue => defineQueueBody p
  | .modifyQueue => modifyQueueBody p
  | .purgeQueue => purgeQueueBody p
  | .deleteQueue => deleteQueueBody p
  | .setPort => setPortBody p
  | .fencePort => fencePortBody p
  | .unfencePort => unfencePortBody p
  | .resetPort => resetPortBody p

/-- Every command of the engine is taken by `takeCommand`, which makes the device-state check before
the command's own body (R65, R71). -/
theorem exec_command (p : Port) (c : CommandCode) (s : State) :
    exec (CommandCode.command p c) s = .next (s.takeCommand p c (CommandCode.body p c)) := by
  cases c <;> rfl

/-- A granted command that the device-state check decides is answered, and nothing else changes,
whichever command it is (R14). -/
theorem exec_command_refused (s : State) (p : Port) (c : CommandCode) (o : Operands) (x : OutcomeCode)
    (hw : s.waits p c o) (hx : s.deviceCheck c = some x) :
    exec (CommandCode.command p c) s = .next (s.answered p x noResults) := by
  rw [exec_command, s.takeCommand_refused p c o _ x hw hx]

/-- Settles O12: the table is `deviceCheck`'s equation for each device state, and the refusal is the
grant and completion that `takeCommand` makes of any of the 18 commands. -/
theorem deviceStateCheckComesFirst : Obligations.DeviceStateCheckComesFirst := by
  refine ⟨fun s c => ⟨s.deviceCheck_of_halted c, s.deviceCheck_of_formatting c, ?_, ?_, ?_, ?_, ?_⟩,
    exec_command_refused⟩
  · intro hd hl
    rw [s.deviceCheck_of_unformatted c hd, if_neg (by simp [hl])]
  · intro hd hl hc
    rw [s.deviceCheck_of_unformatted c hd, if_pos ⟨hl, hc⟩]
  · intro hd hc
    rw [s.deviceCheck_of_unformatted c hd, if_neg (fun h => hc h.2)]
  · intro hd hc
    rw [s.deviceCheck_of_running c hd, if_pos hc]
  · intro hd hc
    rw [s.deviceCheck_of_running c hd, if_neg hc]

end Sys2Proof.Machine
end

section
/-! Proofs/MessageCommands.lean: the checks of ALLOCATE, PUT, TAKE, CLAIM and UNCLAIM, an equation for each
outcome, the refusals they give, and the effects of RENEW, CLAIM and UNCLAIM. -/

namespace Sys2Proof.Machine

/-! ## A granted command that is only answered -/

namespace State

variable (s : State)

/-- A command taken in a RUNNING part whose body does no more than complete it is answered, and nothing
else changes (R65, R66). -/
theorem takeCommand_answered (p : Port) (c : CommandCode) (o : Operands) (body : Operands → State → State)
    (x : OutcomeCode) (rs : Results) (hc : c ≠ .format) (h : s.takes p c o)
    (hb : body o (s.startCommand p c o) = (s.startCommand p c o).complete p x rs) :
    s.takeCommand p c body = s.answered p x rs := by
  rw [s.takeCommand_of_takes p c o body hc h, hb]
  obtain ⟨_, _, hslot⟩ := h
  exact s.startCommand_complete p c o x rs hslot

/-- An effect that leaves the grant and the interfaces alone, then the completion, is a completion as
software and the arbiter see it (R65, R70). -/
theorem completes_of_effect (t : State) (p : Port) (c : CommandCode) (o : Operands) (x : OutcomeCode)
    (rs : Results) (h : s.waits p c o) (hg : t.lastGranted = .port p)
    (hi : t.interfaces = (s.startCommand p c o).interfaces) : s.completes (t.complete p x rs) p x rs := by
  obtain ⟨_, hslot⟩ := h
  have hsame : ∀ r, t.interface r = (s.startCommand p c o).interface r := fun r => by
    simp only [interface, hi]
  refine ⟨(t.complete_lastGranted p x rs).trans hg, ?_, fun r hr => ?_⟩
  · rw [t.complete_interface_same p x rs (by simp [hsame, hslot]), hsame]
    simp [PortInterface.afterCompletion, CommandSlot.idle]
  · rw [t.complete_interface_other p r x rs hr, hsame, s.startCommand_interface_other p r c o hr]

end State

/-! ## What `exec` takes, and the refusals -/

section Refusals

variable {s₀ s : State} {u : Upset} {p : Port} {o : Operands} {x : OutcomeCode}

theorem exec_allocate :
    exec (.allocate p u) s₀ = .next ((s₀.upset u).takeCommand p .allocate (allocateBody p)) := (rfl)

theorem exec_put : exec (.put p u) s₀ = .next ((s₀.upset u).takeCommand p .put (putBody p)) := (rfl)

theorem exec_take : exec (.take p u) s₀ = .next ((s₀.upset u).takeCommand p .take (takeBody p)) := (rfl)

theorem exec_claim : exec (.claim p) s = .next (s.takeCommand p .claim (claimBody p)) := (rfl)

theorem exec_unclaim : exec (.unclaim p) s = .next (s.takeCommand p .unclaim (unclaimBody p)) := (rfl)

theorem exec_renew : exec (.renew p) s = .next (s.takeCommand p .renew (renewBody p)) := (rfl)

theorem exec_allocate_refused (hu : s₀.upset u = s) (h : s.takes p .allocate o)
    (hx : allocateCheck s p o.cellCount = .error x) :
    exec (.allocate p u) s₀ = .next (s.answered p x noResults) := by
  have hx' : allocateCheck (s.startCommand p .allocate o) p o.cellCount = .error x := hx
  have hb : allocateBody p o (s.startCommand p .allocate o) =
      (s.startCommand p .allocate o).complete p x noResults := by
    simp only [allocateBody, hx']
  rw [exec_allocate, hu, s.takeCommand_answered p .allocate o _ x _ (by decide) h hb]

theorem exec_put_refused (hu : s₀.upset u = s) (h : s.takes p .put o)
    (hx : putCheck s p o = .error x) : exec (.put p u) s₀ = .next (s.answered p x noResults) := by
  have hx' : putCheck (s.startCommand p .put o) p o = .error x := hx
  have hb : putBody p o (s.startCommand p .put o) = (s.startCommand p .put o).complete p x noResults := by
    simp only [putBody, hx']
  rw [exec_put, hu, s.takeCommand_answered p .put o _ x _ (by decide) h hb]

theorem exec_take_refused (hu : s₀.upset u = s) (h : s.takes p .take o)
    (hx : takeCheck s p o = .error x) : exec (.take p u) s₀ = .next (s.answered p x noResults) := by
  have hx' : takeCheck (s.startCommand p .take o) p o = .error x := hx
  have hb : takeBody p o (s.startCommand p .take o) = (s.startCommand p .take o).complete p x noResults := by
    simp only [takeBody, hx']
  rw [exec_take, hu, s.takeCommand_answered p .take o _ x _ (by decide) h hb]

theorem exec_claim_refused (h : s.takes p .claim o)
    (hx : claimCheck s p o = .error x) : exec (.claim p) s = .next (s.answered p x noResults) := by
  have hx' : claimCheck (s.startCommand p .claim o) p o = .error x := hx
  have hb : claimBody p o (s.startCommand p .claim o) = (s.startCommand p .claim o).complete p x noResults := by
    simp only [claimBody, hx']
  rw [exec_claim, s.takeCommand_answered p .claim o _ x _ (by decide) h hb]

theorem exec_unclaim_refused (h : s.takes p .unclaim o)
    (hx : unclaimCheck s p o = .error x) : exec (.unclaim p) s = .next (s.answered p x noResults) := by
  have hx' : unclaimCheck (s.startCommand p .unclaim o) p o = .error x := hx
  have hb : unclaimBody p o (s.startCommand p .unclaim o) = (s.startCommand p .unclaim o).complete p x noResults := by
    simp only [unclaimBody, hx']
  rw [exec_unclaim, s.takeCommand_answered p .unclaim o _ x _ (by decide) h hb]

end Refusals

/-! ## ALLOCATE -/

section Allocate

variable {s : State} {p : Port} {n : Nat}

theorem allocateCheck_badOperand (h : n < 1 ∨ 16 < n) : allocateCheck s p n = .error .badOperand := by
  simp only [allocateCheck, if_pos h]

theorem allocateCheck_noSlot (h1 : 1 ≤ n) (h16 : n ≤ 16) (hs : ∀ i, (s.slot p i).holding ≠ .empty) :
    allocateCheck s p n = .error .noSlot := by
  have hn : ¬(n < 1 ∨ 16 < n) := by omega
  simp only [allocateCheck, if_neg hn, (s.freeSlot_eq_none p).2 hs]

variable {i : SlotNo}

theorem allocateCheck_quota (h1 : 1 ≤ n) (h16 : n ≤ 16) (hs : (s.slot p i).holding = .empty)
    (hq : (s.port p).quota < s.heldCells p + n) : allocateCheck s p n = .error .quota := by
  have hn : ¬(n < 1 ∨ 16 < n) := by omega
  obtain ⟨j, hj⟩ := s.freeSlot_of_empty p i hs
  simp only [allocateCheck, if_neg hn, hj, if_pos hq]

theorem allocateCheck_noCells (h1 : 1 ≤ n) (h16 : n ≤ 16) (hs : (s.slot p i).holding = .empty)
    (hq : s.heldCells p + n ≤ (s.port p).quota) (hf : s.freeList.length < n) :
    allocateCheck s p n = .error .noCells := by
  have hn : ¬(n < 1 ∨ 16 < n) := by omega
  have hf' : s.freeCount < n := hf
  obtain ⟨j, hj⟩ := s.freeSlot_of_empty p i hs
  simp only [allocateCheck, if_neg hn, hj, if_neg (Nat.not_lt.2 hq), if_pos hf']

end Allocate

/-- Settles O23: each clause is the refusal that one equation of `allocateCheck` gives. -/
theorem allocateChecksInOrder : Obligations.AllocateChecksInOrder := by
  intro s₀ s u p o hu h
  refine ⟨fun hn => ?_, fun h1 h16 hs => ?_, fun i h1 h16 hs => ⟨fun hq => ?_, fun hq hf => ?_⟩⟩
  · exact exec_allocate_refused hu h (allocateCheck_badOperand hn)
  · exact exec_allocate_refused hu h (allocateCheck_noSlot h1 h16 hs)
  · exact exec_allocate_refused hu h (allocateCheck_quota h1 h16 hs hq)
  · exact exec_allocate_refused hu h (allocateCheck_noCells h1 h16 hs hq hf)

/-! ## PUT -/

theorem Holding.acceptsLength_eq_true (h : Holding) (n : Nat) :
    h.acceptsLength n = true ↔
      (∃ m c, h = .fresh m c ∧ 1 ≤ n ∧ n ≤ 64 * c) ∨ ∃ m c f, h = .taken m c f ∧ n = 0 := by
  cases h <;> simp [acceptsLength]

/-- The lengths that do not suit a holding in use: for FRESH 0 and those beyond its cells, for TAKEN all
but 0 (R80). -/
theorem Holding.acceptsLength_eq_false (h : Holding) (n : Nat) (he : h ≠ .empty) :
    h.acceptsLength n = false ↔
      (∃ m c, h = .fresh m c ∧ (n = 0 ∨ 64 * c < n)) ∨ ∃ m c f, h = .taken m c f ∧ n ≠ 0 := by
  cases h with
  | empty => exact absurd rfl he
  | fresh m c =>
    have hlen : (1 ≤ n → 64 * c < n) ↔ n = 0 ∨ 64 * c < n := by omega
    simpa [acceptsLength] using hlen
  | taken m c f => simp [acceptsLength]

section Put

variable {s : State} {p : Port} {o : Operands} {i : SlotNo} {q : QueueNo}

theorem putCheck_stale (hi : ∀ i, ¬ s.names p o.handle i) : putCheck s p o = .error .stale := by
  simp only [putCheck, (s.validHandle_eq_none p o.handle).2 hi]

theorem putCheck_badQueue (hi : s.names p o.handle i) (hq : 64 ≤ o.queueField) :
    putCheck s p o = .error .badOperand := by
  simp only [putCheck, (s.validHandle_eq_some p o.handle i).2 hi, State.queue?_eq_none o hq]

theorem putCheck_noQueue (hi : s.names p o.handle i) (hq : q.val = o.queueField)
    (hs : (s.queue q).state = .undefined) : putCheck s p o = .error .noQueue := by
  simp only [putCheck, (s.validHandle_eq_some p o.handle i).2 hi, State.queue?_eq_some o q hq, hs]

theorem putCheck_queueBusy (hi : s.names p o.handle i) (hq : q.val = o.queueField)
    (hs : (s.queue q).state = .purging ∨ (s.queue q).state = .deleting) : putCheck s p o = .error .queueBusy := by
  rcases hs with hs | hs <;>
    simp only [putCheck, (s.validHandle_eq_some p o.handle i).2 hi, State.queue?_eq_some o q hq, hs]

/-- The checks of PUT on an ACTIVE queue: the right, the length, the limit. -/
theorem putCheck_active (hi : s.names p o.handle i) (hq : q.val = o.queueField)
    (hs : (s.queue q).state = .active) :
    putCheck s p o =
      if (s.queue q).settings.putSet.getLsbD p.val = false then .error .noRight
      else if (s.slot p i).holding.acceptsLength o.length = false then .error .badOperand
      else if (s.queue q).settings.limit ≤ (s.queue q).occupancy then .error .queueFull
      else .ok (i, q) := by
  simp only [putCheck, (s.validHandle_eq_some p o.handle i).2 hi, State.queue?_eq_some o q hq, hs]

end Put

/-- Settles O25: each clause is the refusal that one equation of `putCheck` gives; the two length clauses
are the two values of `Holding.acceptsLength`. -/
theorem putChecksInOrder : Obligations.PutChecksInOrder := by
  intro s₀ s u p o hu h
  refine ⟨fun hi => exec_put_refused hu h (putCheck_stale hi), fun i hi => ⟨fun hq => ?_, fun q hq =>
    ⟨fun hs => ?_, fun hs => ?_, fun hs hr => ?_, fun hs hr => ⟨fun hl => ?_, fun hl hf => ?_⟩⟩⟩⟩
  · exact exec_put_refused hu h (putCheck_badQueue hi hq)
  · exact exec_put_refused hu h (putCheck_noQueue hi hq hs)
  · exact exec_put_refused hu h (putCheck_queueBusy hi hq hs)
  · exact exec_put_refused hu h (by rw [putCheck_active hi hq hs, if_pos hr])
  · have hl' := ((s.slot p i).holding.acceptsLength_eq_false o.length hi.2).2 hl
    exact exec_put_refused hu h (by simp [putCheck_active hi hq hs, hr, hl'])
  · have hl' := ((s.slot p i).holding.acceptsLength_eq_true o.length).2 hl
    exact exec_put_refused hu h (by simp [putCheck_active hi hq hs, hr, hl', hf])

/-! ## CLAIM and UNCLAIM -/

section Claim

variable {s : State} {p : Port} {o : Operands} {q : QueueNo}

theorem claimCheck_badQueue (hq : 64 ≤ o.queueField) : claimCheck s p o = .error .badOperand := by
  simp only [claimCheck, State.queue?_eq_none o hq]

theorem claimCheck_noQueue (hq : q.val = o.queueField) (hs : (s.queue q).state = .undefined) :
    claimCheck s p o = .error .noQueue := by
  simp only [claimCheck, State.queue?_eq_some o q hq, hs]

theorem claimCheck_queueBusy (hq : q.val = o.queueField)
    (hs : (s.queue q).state = .purging ∨ (s.queue q).state = .deleting) :
    claimCheck s p o = .error .queueBusy := by
  rcases hs with hs | hs <;> simp only [claimCheck, State.queue?_eq_some o q hq, hs]

theorem claimCheck_noRight (hq : q.val = o.queueField) (hs : (s.queue q).state = .active)
    (hr : (s.queue q).settings.takeSet.getLsbD p.val = false) : claimCheck s p o = .error .noRight := by
  simp only [claimCheck, State.queue?_eq_some o q hq, hs, if_pos hr]

theorem claimCheck_claimed {r : Port} (hq : q.val = o.queueField) (hs : (s.queue q).state = .active)
    (hr : (s.queue q).settings.takeSet.getLsbD p.val = true) (hc : (s.queue q).claimant = some r) (hne : r ≠ p) :
    claimCheck s p o = .error .claimed := by
  simp [claimCheck, State.queue?_eq_some o q hq, hs, hr, hc, hne]

theorem claimCheck_ok (hq : q.val = o.queueField) (hs : (s.queue q).state = .active)
    (hr : (s.queue q).settings.takeSet.getLsbD p.val = true)
    (hc : (s.queue q).claimant = none ∨ (s.queue q).claimant = some p) : claimCheck s p o = .ok q := by
  rcases hc with hc | hc <;> simp [claimCheck, State.queue?_eq_some o q hq, hs, hr, hc]

theorem unclaimCheck_badQueue (hq : 64 ≤ o.queueField) : unclaimCheck s p o = .error .badOperand := by
  simp only [unclaimCheck, State.queue?_eq_none o hq]

/-- The checks of UNCLAIM on queue `q`: it exists, and the issuer is its claimant. -/
theorem unclaimCheck_queue (hq : q.val = o.queueField) :
    unclaimCheck s p o =
      if (s.queue q).state = .undefined then .error .noQueue
      else if (s.queue q).claimant ≠ some p then .error .badOperand
      else .ok q := by
  simp only [unclaimCheck, State.queue?_eq_some o q hq]

/-- Start, a claimant written, completion: the command is answered and only the claimant changes. -/
theorem State.startCommand_setClaimant_complete {c : CommandCode} (x : OutcomeCode) (rs : Results)
    (r : Option Port) (h : s.waits p c o) :
    ((s.startCommand p c o).setClaimant q r).complete p x rs =
      (s.answered p x rs).setQueue q { s.queue q with claimant := r } := by
  rw [s.complete_of_effect ((s.startCommand p c o).setClaimant q r) p c o x rs h.2 rfl]
  rfl

theorem exec_claim_ok (h : s.takes p .claim o) (hx : claimCheck s p o = .ok q) :
    exec (.claim p) s =
      .next ((s.answered p .ok noResults).setQueue q { s.queue q with claimant := some p }) := by
  have hx' : claimCheck (s.startCommand p .claim o) p o = .ok q := hx
  rw [exec_claim, s.takeCommand_of_takes p .claim o _ (by decide) h]
  simp only [claimBody, hx', State.startCommand_setClaimant_complete _ _ _ h.2]

theorem exec_unclaim_ok (h : s.takes p .unclaim o) (hx : unclaimCheck s p o = .ok q) :
    exec (.unclaim p) s =
      .next ((s.answered p .ok noResults).setQueue q { s.queue q with claimant := none }) := by
  have hx' : unclaimCheck (s.startCommand p .unclaim o) p o = .ok q := hx
  rw [exec_unclaim, s.takeCommand_of_takes p .unclaim o _ (by decide) h]
  simp only [unclaimBody, hx', State.startCommand_setClaimant_complete _ _ _ h.2]

end Claim

/-- Settles O35: the refusals are those of the equations of `claimCheck` and `unclaimCheck`, and a command
that passes writes the claimant alone. -/
theorem claimAndUnclaimSetAndDropTheClaim : Obligations.ClaimAndUnclaimSetAndDropTheClaim := by
  refine ⟨fun s p o h => ⟨fun hq => ?_, fun q hq => ⟨fun hs => ?_, fun hs => ?_, fun hs hr => ?_, fun hs hr =>
    ⟨fun r hc hne => ?_, fun hc => ?_⟩⟩⟩, fun s p o h => ⟨fun hq => ?_, fun q hq =>
    ⟨fun hs => ?_, fun hs hc => ?_, fun hs hc => ?_⟩⟩⟩
  · exact exec_claim_refused h (claimCheck_badQueue hq)
  · exact exec_claim_refused h (claimCheck_noQueue hq hs)
  · exact exec_claim_refused h (claimCheck_queueBusy hq hs)
  · exact exec_claim_refused h (claimCheck_noRight hq hs hr)
  · exact exec_claim_refused h (claimCheck_claimed hq hs hr hc hne)
  · exact exec_claim_ok h (claimCheck_ok hq hs hr hc)
  · exact exec_unclaim_refused h (unclaimCheck_badQueue hq)
  · exact exec_unclaim_refused h (by rw [unclaimCheck_queue hq, if_pos hs])
  · exact exec_unclaim_refused h (by rw [unclaimCheck_queue hq, if_neg hs, if_pos hc])
  · exact exec_unclaim_ok h (by rw [unclaimCheck_queue hq, if_neg hs, if_neg (not_not_intro hc)])

/-! ## TAKE -/

theorem State.endMessage_eq (s : State) (q : QueueNo) (e : ListEnd) :
    s.endMessage q e = if e = .head then (s.queue q).list.head? else (s.queue q).list.getLast? := by
  cases e <;> rfl

theorem State.endMessage_eq_none (s : State) (q : QueueNo) (e : ListEnd) :
    s.endMessage q e = none ↔ (s.queue q).list = [] := by
  cases e <;> simp [endMessage, Queue.head?, Queue.tail?]

/-- The checks of TAKE that follow CLAIM's: a message at the named end of queue `q`, then an EMPTY slot. -/
def takeEndCheck (s : State) (p : Port) (e : ListEnd) (q : QueueNo) :
    Except OutcomeCode (QueueNo × SlotNo × CellNo) :=
  match s.endMessage q e with
  | none => .error .queueEmpty
  | some m =>
    match s.freeSlot p with
    | none => .error .noSlot
    | some i => .ok (q, i, m)

/-- TAKE's checks are CLAIM's, in the same order, and then its own (R84, R98). -/
theorem takeCheck_eq_claimCheck_bind (s : State) (p : Port) (o : Operands) :
    takeCheck s p o = (claimCheck s p o).bind (takeEndCheck s p o.listEnd) := by
  unfold takeCheck claimCheck
  cases o.queue? with
  | none => rfl
  | some q =>
    dsimp only
    cases (s.queue q).state with
    | active =>
      dsimp only
      split
      · rfl
      · split <;> rfl
    | undefined => rfl
    | purging => rfl
    | deleting => rfl

section Take

variable {s₀ s : State} {u : Upset} {p : Port} {o : Operands} {q : QueueNo} {i : SlotNo} {m : CellNo}
  {x : OutcomeCode}

theorem takeCheck_of_claimCheck_error (h : claimCheck s p o = .error x) : takeCheck s p o = .error x := by
  rw [takeCheck_eq_claimCheck_bind, h]
  rfl

theorem takeCheck_queueEmpty (h : claimCheck s p o = .ok q) (he : (s.queue q).list = []) :
    takeCheck s p o = .error .queueEmpty := by
  have hm := (s.endMessage_eq_none q o.listEnd).2 he
  simp only [takeCheck_eq_claimCheck_bind, h, Except.bind, takeEndCheck, hm]

theorem takeCheck_noSlot (h : claimCheck s p o = .ok q) (he : (s.queue q).list ≠ [])
    (hs : ∀ i, (s.slot p i).holding ≠ .empty) : takeCheck s p o = .error .noSlot := by
  obtain ⟨m, hm⟩ := Option.ne_none_iff_exists'.1 (mt (s.endMessage_eq_none q o.listEnd).1 he)
  simp only [takeCheck_eq_claimCheck_bind, h, Except.bind, takeEndCheck, hm, (s.freeSlot_eq_none p).2 hs]

theorem takeCheck_ok (h : claimCheck s p o = .ok q) (hm : s.endMessage q o.listEnd = some m)
    (hs : s.freeSlot p = some i) : takeCheck s p o = .ok (q, i, m) := by
  simp only [takeCheck_eq_claimCheck_bind, h, Except.bind, takeEndCheck, hm, hs]

/-- The last check of TAKE, made once the end message's record has been read (R84). -/
theorem exec_take_quota (hu : s₀.upset u = s) (h : s.takes p .take o) (hx : takeCheck s p o = .ok (q, i, m))
    (hm : s.readsClear [.record m]) (hq : (s.port p).quota < s.heldCells p + (s.messageCells m).length) :
    exec (.take p u) s₀ = .next (s.answered p .quota noResults) := by
  have hx' : takeCheck (s.startCommand p .take o) p o = .ok (q, i, m) := hx
  have hclear : (s.startCommand p .take o).mismatch [.record m] = none := (s.mismatch_eq_none _).2 hm
  have hb : takeBody p o (s.startCommand p .take o) = (s.startCommand p .take o).complete p .quota noResults := by
    simp only [takeBody, hx', State.commandReads_clear _ _ _ _ hclear]
    exact if_pos hq
  rw [exec_take, hu, s.takeCommand_answered p .take o _ .quota _ (by decide) h hb]

end Take

/-- Settles O28: the first five checks are CLAIM's, the next two those of `takeEndCheck`, and the last is
made on the record that TAKE reads. -/
theorem takeChecksInOrder : Obligations.TakeChecksInOrder := by
  intro s₀ s u p o hu h
  have refused {x} (hx : claimCheck s p o = .error x) :=
    exec_take_refused hu h (takeCheck_of_claimCheck_error hx)
  refine ⟨fun hq => refused (claimCheck_badQueue hq), fun q hq => ⟨fun hs => ?_, fun hs => ?_, fun hs hr => ?_,
    fun hs hr => ⟨fun r hc hne => ?_, fun hc => ?_⟩⟩⟩
  · exact refused (claimCheck_noQueue hq hs)
  · exact refused (claimCheck_queueBusy hq hs)
  · exact refused (claimCheck_noRight hq hs hr)
  · exact refused (claimCheck_claimed hq hs hr hc hne)
  · have passed := claimCheck_ok hq hs hr hc
    refine ⟨fun he => ?_, fun he hn => ?_, fun i m r hi hm hrec hclear hquota => ?_⟩
    · exact exec_take_refused hu h (takeCheck_queueEmpty passed he)
    · exact exec_take_refused hu h (takeCheck_noSlot passed he hn)
    · obtain ⟨j, hj⟩ := s.freeSlot_of_empty p i hi
      have hx := takeCheck_ok passed ((s.endMessage_eq q o.listEnd).trans hm) hj
      have hcells : s.messageCells m = r.cells := by simp only [State.messageCells, hrec]
      exact exec_take_quota hu h hx hclear (by rw [hcells]; exact hquota)

/-! ## RENEW -/

/-- An inserted entry stands at its place (R104). -/
theorem insertEntry_insertedAtPlace (tick : BitVec 32) (e : TimeoutEntry) (l : List TimeoutEntry) :
    InsertedAtPlace tick e l (insertEntry tick e l) := by
  induction l with
  | nil => exact ⟨[], [], rfl, rfl, by simp, by simp⟩
  | cons x rest ih =>
    unfold insertEntry
    split
    case isTrue hx => exact ⟨[], x :: rest, rfl, rfl, by simp, by simpa using hx⟩
    case isFalse hx =>
      obtain ⟨before, after, hold, hnew, hbefore, hafter⟩ := ih
      have hpast : x.due = true ∨ remaining tick x.deadline ≤ remaining tick e.deadline := by
        rw [← Bool.not_eq_false, ← Nat.not_lt]
        exact not_and_or.1 hx
      exact ⟨x :: before, after, by rw [hold, List.cons_append], by rw [hnew, List.cons_append],
        List.forall_mem_cons.2 ⟨hpast, hbefore⟩, hafter⟩

/-- A hold time as a result word (R91). -/
theorem field_holdTime (x : BitVec 16) : field 0 16 x.toNat = BitVec.ofNat 32 x.toNat := by
  rw [field, Nat.mod_eq_of_lt x.isLt, Nat.pow_zero, Nat.mul_one]

theorem renewEffect_frame (s : State) (p : Port) (i : SlotNo) (m : CellNo) (c : Nat) (f : TakenFields)
    (d : BitVec 32) :
    renewEffect p i m c f d s =
      { s with
        holdings := (renewEffect p i m c f d s).holdings
        timeouts := (renewEffect p i m c f d s).timeouts } := (rfl)

/-- What RENEW writes in the slot: the new deadline and nothing else (R91). -/
theorem renewEffect_slot (s : State) (p : Port) (i : SlotNo) (m : CellNo) (c : Nat) (f : TakenFields)
    (d : BitVec 32) :
    (renewEffect p i m c f d s).slot p i =
      { gen := (s.slot p i).gen, holding := .taken m c { f with deadline := some d } } := by
  simp [renewEffect, State.fillSlot]

theorem renewEffect_otherSlotsKept (s : State) (p : Port) (i : SlotNo) (m : CellNo) (c : Nat) (f : TakenFields)
    (d : BitVec 32) : s.otherSlotsKept (renewEffect p i m c f d s) p i := by
  intro r j hrj
  simp [renewEffect, State.fillSlot, State.setSlot_slot_other _ _ _ _ _ _ hrj]

/-- RENEW takes the holding's entry out and puts the new one, not due, at its place (R91, R104). -/
theorem renewEffect_insertedAtPlace (s : State) (p : Port) (i : SlotNo) (m : CellNo) (c : Nat)
    (f : TakenFields) (d : BitVec 32) :
    InsertedAtPlace s.tick { port := p, slot := i, gen := (s.slot p i).gen, deadline := d, due := false }
      (s.timeoutsWithout p i) (renewEffect p i m c f d s).timeouts :=
  insertEntry_insertedAtPlace _ _ _

section Renew

variable {s : State} {p : Port} {o : Operands} {i : SlotNo} {m : CellNo} {c : Nat} {f : TakenFields}

theorem renewBody_stale (hi : ∀ i, ¬ s.names p o.handle i) :
    renewBody p o s = s.complete p .stale noResults := by
  simp only [renewBody, (s.validHandle_eq_none p o.handle).2 hi]

theorem renewBody_fresh (hi : s.names p o.handle i) (hh : (s.slot p i).holding = .fresh m c) :
    renewBody p o s = s.complete p .badOperand noResults := by
  simp only [renewBody, (s.validHandle_eq_some p o.handle i).2 hi, hh]

/-- RENEW of a TAKEN holding: an orphan, a holding without a deadline, and the new deadline (R90, R91). -/
theorem renewBody_taken (hi : s.names p o.handle i) (hh : (s.slot p i).holding = .taken m c f) :
    renewBody p o s =
      if f.source = none then s.complete p .orphaned noResults
      else if f.holdTime = 0 then s.complete p .ok noResults
      else (renewEffect p i m c f (s.tick + BitVec.ofNat 32 f.holdTime.toNat) s).complete p .ok
        #v[BitVec.ofNat 32 f.holdTime.toNat, s.tick + BitVec.ofNat 32 f.holdTime.toNat, 0, 0] := by
  simp only [renewBody, (s.validHandle_eq_some p o.handle i).2 hi, hh, field_holdTime, BitVec.ofNat_toNat]

/-- A RENEW whose body only completes it is answered. -/
theorem exec_renew_answered {x : OutcomeCode} (h : s.takes p .renew o)
    (hb : renewBody p o (s.startCommand p .renew o) = (s.startCommand p .renew o).complete p x noResults) :
    exec (.renew p) s = .next (s.answered p x noResults) := by
  rw [exec_renew, s.takeCommand_answered p .renew o _ x _ (by decide) h hb]

/-- The last case of RENEW: the deadline is set from the present, and the words are the new ones (R91). -/
theorem exec_renew_deadline (h : s.takes p .renew o) (hi : s.names p o.handle i)
    (hh : (s.slot p i).holding = .taken m c f) (hf : f.source ≠ none) (h0 : f.holdTime ≠ 0) :
    exec (.renew p) s = .next
      ((renewEffect p i m c f (s.tick + BitVec.ofNat 32 f.holdTime.toNat) (s.startCommand p .renew o)).complete p
        .ok #v[BitVec.ofNat 32 f.holdTime.toNat, s.tick + BitVec.ofNat 32 f.holdTime.toNat, 0, 0]) := by
  have taken : renewBody p o (s.startCommand p .renew o) = _ := renewBody_taken hi hh
  rw [if_neg hf, if_neg h0] at taken
  rw [exec_renew, s.takeCommand_of_takes p .renew o _ (by decide) h, taken, State.startCommand_tick]

end Renew

/-- Settles O31: the refusals and the case without effect complete the command alone; otherwise
`renewEffect` writes the deadline and moves the entry. -/
theorem renewResetsTheDeadline : Obligations.RenewResetsTheDeadline := by
  intro s p o h
  refine ⟨fun hi => exec_renew_answered h (renewBody_stale hi), fun i hi =>
    ⟨fun m c hh => exec_renew_answered h (renewBody_fresh hi hh), fun m c f hh => ?_⟩⟩
  have taken : renewBody p o (s.startCommand p .renew o) = _ := renewBody_taken hi hh
  refine ⟨fun hf => exec_renew_answered h ?_, fun hf h0 => exec_renew_answered h ?_, fun hf h0 =>
    ⟨_, _, exec_renew_deadline h hi hh hf h0, rfl, s.completes_of_effect _ p .renew o _ _ h.2 rfl rfl,
      ?_, ?_, ?_, ?_⟩⟩
  · rw [taken, if_pos hf]
  · rw [taken, if_neg hf, if_pos h0]
  · rw [State.complete_slot]
    exact renewEffect_slot (s.startCommand p .renew o) p i m c f _
  · intro r j hrj
    rw [State.complete_slot]
    exact renewEffect_otherSlotsKept (s.startCommand p .renew o) p i m c f _ r j hrj
  · rw [State.complete_timeouts]
    exact renewEffect_insertedAtPlace (s.startCommand p .renew o) p i m c f _
  · rw [State.complete_frame, renewEffect_frame]
    rfl

end Sys2Proof.Machine
end

section
/-! Proofs/Notices.lean: how the notice unit enters and merges a raise (R121), and what an acknowledge does
to the active stack (R125). -/

namespace Sys2Proof.Machine

/-! ## The pending set as a set -/

theorem Notice.sameKey_iff (a b : Notice) : a.sameKey b = true ↔ a.kind = b.kind ∧ a.source = b.source := by
  simp [Notice.sameKey]

/-- Records with the key of one record have the same key. -/
theorem Notice.sameKey_of_common {a b n : Notice} (ha : a.sameKey n = true) (hb : b.sameKey n = true) :
    a.sameKey b = true := by
  obtain ⟨hka, hsa⟩ := (a.sameKey_iff n).1 ha
  obtain ⟨hkb, hsb⟩ := (b.sameKey_iff n).1 hb
  exact (a.sameKey_iff b).2 ⟨hka.trans hkb.symm, hsa.trans hsb.symm⟩

theorem Notice.sameKey_comm (a b : Notice) : a.sameKey b = b.sameKey a := by
  simp only [Notice.sameKey, Bool.beq_comm]

/-- The order of R122 decides the place of a record and not whether it is there. -/
theorem mem_insertNotice (n x : Notice) (set : List Notice) : x ∈ insertNotice n set ↔ x = n ∨ x ∈ set := by
  induction set with
  | nil => simp [insertNotice]
  | cons y rest ih =>
    unfold insertNotice
    split
    · exact List.mem_cons
    · rw [List.mem_cons, ih, List.mem_cons, or_left_comm]

theorem mem_withoutKey (n x : Notice) (set : List Notice) :
    x ∈ withoutKey n set ↔ x ∈ set ∧ x.sameKey n = false := by
  simp [withoutKey]

/-- No two pending records share kind and source, so the one with a given key is unique (R119). -/
theorem NoticeUnit.PendingLaw.eq_of_sameKey {u : NoticeUnit} (h : u.PendingLaw) {x y : Notice}
    (hx : x ∈ u.pendingSet) (hy : y ∈ u.pendingSet) (hk : x.sameKey y = true) : x = y := by
  obtain ⟨distinct, -⟩ := h
  by_contra hne
  have symmetric : Std.Symm fun a b : Notice => a.sameKey b = false :=
    ⟨fun a b hab => (b.sameKey_comm a).trans hab⟩
  have differ : x.sameKey y = false := distinct.forall hx hy hne
  simp [differ] at hk

/-! ## A raise (R121) -/

theorem mergedNotice_of_new {set : List Notice} {n : Notice} (h : ∀ x ∈ set, x.sameKey n = false) :
    mergedNotice set n = n := by
  have hnone : set.find? (fun x => x.sameKey n) = none := by simpa using h
  simp only [mergedNotice, hnone]

namespace NoticeUnit

variable {u : NoticeUnit} {n y : Notice}

theorem mergedNotice_of_pending (h : u.PendingLaw) (hy : y ∈ u.pendingSet) (hk : y.sameKey n = true) :
    mergedNotice u.pendingSet n = { n with reasons := y.reasons ||| n.reasons } := by
  cases hf : u.pendingSet.find? (fun x => x.sameKey n) with
  | none => exact absurd hk (List.find?_eq_none.1 hf y hy)
  | some z =>
    have hz := List.find?_some hf
    have hzy : z = y := h.eq_of_sameKey (List.mem_of_find?_eq_some hf) hy (Notice.sameKey_of_common hz hk)
    simp only [mergedNotice, hf, hzy]

theorem mem_taking (u : NoticeUnit) (n x : Notice) :
    x ∈ (u.taking n).pendingSet ↔
      (x ∈ u.pendingSet ∧ x.sameKey n = false) ∨ x = mergedNotice u.pendingSet n := by
  rw [taking, mem_insertNotice, mem_withoutKey, or_comm]

/-- A raise of a kind and source with no record pending is entered as it is. -/
theorem mem_taking_of_new (h : ∀ x ∈ u.pendingSet, x.sameKey n = false) (x : Notice) :
    x ∈ (u.taking n).pendingSet ↔ x ∈ u.pendingSet ∨ x = n := by
  have keyOf : (x ∈ u.pendingSet ∧ x.sameKey n = false) ↔ x ∈ u.pendingSet := and_iff_left_of_imp (h x)
  rw [mem_taking, mergedNotice_of_new h, keyOf]

/-- A raise of the kind and source of a pending record takes that record's place. -/
theorem mem_taking_of_pending (h : u.PendingLaw) (hy : y ∈ u.pendingSet) (hk : y.sameKey n = true)
    (x : Notice) :
    x ∈ (u.taking n).pendingSet ↔
      (x ∈ u.pendingSet ∧ x ≠ y) ∨ x = { n with reasons := y.reasons ||| n.reasons } := by
  have others : x ∈ u.pendingSet → (x.sameKey n = false ↔ x ≠ y) := by
    intro hx
    constructor
    · rintro hn rfl
      exact absurd hk (by simp [hn])
    · intro hne
      by_contra hn
      exact hne (h.eq_of_sameKey hx hy (Notice.sameKey_of_common (Bool.eq_true_of_not_eq_false hn) hk))
  rw [mem_taking, mergedNotice_of_pending h hy hk, and_congr_right others]

end NoticeUnit

theorem State.raise_of_detached (s : State) (p : Port) (n : Notice) (h : (s.port p).state ≠ .attached) :
    s.raise p n = s := if_neg h

/-- The unit of an ATTACHED port takes the raise. -/
theorem State.raise_noticeUnit_of_attached (s : State) (p : Port) (n : Notice)
    (h : (s.port p).state = .attached) : (s.raise p n).noticeUnit p = (s.noticeUnit p).taking n := by
  rw [s.raise_noticeUnit_same, if_pos h]

/-- Settles O49: the raise is dropped by `raise_of_detached`; else `taking` keeps the stack and enters or
merges the record. -/
theorem raiseIsDroppedEnteredOrMerged : Obligations.RaiseIsDroppedEnteredOrMerged := by
  intro s p n law
  refine ⟨s.raise_of_detached p n, fun ha => ?_⟩
  rw [s.raise_noticeUnit_of_attached p n ha]
  refine ⟨rfl, fun hnew => ?_, fun y hy hkind hsource => ?_,
    fun r hr => s.raise_noticeUnit_other p r n hr, s.raise_frame p n⟩
  · exact NoticeUnit.mem_taking_of_new fun x hx =>
      Bool.eq_false_iff.2 fun hk => hnew x hx ((x.sameKey_iff n).1 hk)
  · exact NoticeUnit.mem_taking_of_pending law hy ((y.sameKey_iff n).2 ⟨hkind, hsource⟩)

/-! ## An acknowledge (R125) -/

namespace State

variable (s : State) (p : Port)

/-- The flags of a DOWN port are held clear (R67). -/
theorem setFlag_of_down (f : StickyFlag) (h : (s.port p).state = .down) : s.setFlag p f = s := if_pos h

theorem setFlag_of_not_down (f : StickyFlag) (h : (s.port p).state ≠ .down) :
    s.setFlag p f = s.setInterface p ((s.interface p).withFlag f) := if_neg h

theorem acknowledge_of_cons (top : Notice) (rest : List Notice) (h : (s.noticeUnit p).active = top :: rest) :
    s.acknowledge p = s.setNoticeUnit p { s.noticeUnit p with active := rest } := by
  simp only [acknowledge, h]

theorem acknowledge_of_empty (h : (s.noticeUnit p).active = []) : s.acknowledge p = s.setFlag p .noack := by
  simp only [acknowledge, h]

/-- With no strobe active an acknowledge has no effect (R170). -/
theorem acknowledgeWrite_unstrobed : s.acknowledgeWrite p 0 = s := if_pos rfl

theorem acknowledgeWrite_strobed (strobes : Strobes) (h : strobes ≠ 0) :
    s.acknowledgeWrite p strobes = s.acknowledge p := if_neg h

end State

theorem exec_noticeAcknowledge (s : State) (p : Port) (data : Word) (strobes : Strobes) :
    exec (.noticeAcknowledge p data strobes) s = .next (s.acknowledgeWrite p strobes) := (rfl)

/-- Settles O51: `acknowledge` pops a stack that is not empty, and sets a flag on an empty one, which a DOWN
port holds clear. -/
theorem acknowledgePopsTheActiveStack : Obligations.AcknowledgePopsTheActiveStack := by
  intro s p data strobes
  refine ⟨?_, fun hs => ?_⟩
  · rintro rfl
    rw [exec_noticeAcknowledge, s.acknowledgeWrite_unstrobed]
  · rw [exec_noticeAcknowledge, s.acknowledgeWrite_strobed p strobes hs]
    refine ⟨fun top rest hact => ?_, fun hempty hup => ?_, fun hempty hdown => ?_⟩
    · rw [s.acknowledge_of_cons p top rest hact]
      rfl
    · rw [s.acknowledge_of_empty p hempty, s.setFlag_of_not_down p .noack hup]
      rfl
    · rw [s.acknowledge_of_empty p hempty, s.setFlag_of_down p .noack hdown]

end Sys2Proof.Machine
end

section
/-! Proofs/PortAdmin.lean: the checks of FENCE PORT and UNFENCE PORT, whom a PORT EVENT reaches, and what a
fence and an unfence write. -/

namespace Sys2Proof.Machine

/-! ## A PORT EVENT (R120, R121, R146) -/

namespace State

/-- One port's share of a raise to the admins (R120). -/
def raiseIfAdmin (among : Port → Bool) (kind : NoticeKind) (source : BitVec 6) (reasons : Reasons) (s : State)
    (r : Port) : State :=
  if (s.port r).admin && among r then s.raiseSystem r kind source reasons else s

section Raise

variable (among : Port → Bool) (kind : NoticeKind) (source : BitVec 6) (reasons : Reasons) (s : State)

theorem raiseToAdmins_eq_foldl :
    s.raiseToAdmins among kind source reasons =
      Port.all.foldl (raiseIfAdmin among kind source reasons) s := (rfl)

theorem raiseIfAdmin_frame (r : Port) :
    raiseIfAdmin among kind source reasons s r =
      { s with notices := (raiseIfAdmin among kind source reasons s r).notices } := by
  unfold raiseIfAdmin
  split
  · exact s.raiseSystem_frame r kind source reasons
  · rfl

theorem raiseIfAdmin_noticeUnit_other (r x : Port) (h : x ≠ r) :
    (raiseIfAdmin among kind source reasons s r).noticeUnit x = s.noticeUnit x := by
  unfold raiseIfAdmin
  split
  · exact s.raise_noticeUnit_other r x _ h
  · rfl

/-- What port `x` receives depends on no other port's notice unit. -/
theorem raiseIfAdmin_noticeUnit_same (x : Port) :
    (raiseIfAdmin among kind source reasons s x).noticeUnit x =
      if s.attachedAdmin x = true ∧ among x = true then
        (s.noticeUnit x).taking
          { kind := kind, source := source, level := (s.interface x).systemLevel, reasons := reasons }
      else s.noticeUnit x := by
  unfold raiseIfAdmin attachedAdmin
  by_cases ha : (s.port x).admin = true ∧ among x = true
  · obtain ⟨hadmin, hamong⟩ := ha
    simp [hadmin, hamong, raiseSystem, raise_noticeUnit_same]
  · rw [if_neg (by simpa using ha), if_neg]
    rintro ⟨hx, hamong⟩
    exact ha ⟨(Bool.and_eq_true_iff.1 hx).1, hamong⟩

theorem raiseIfAdmin_noticeUnit_after (r x : Port) (h : x ≠ r) :
    (raiseIfAdmin among kind source reasons (raiseIfAdmin among kind source reasons s r) x).noticeUnit x =
      (raiseIfAdmin among kind source reasons s x).noticeUnit x := by
  rw [raiseIfAdmin_noticeUnit_same, raiseIfAdmin_noticeUnit_same,
    raiseIfAdmin_noticeUnit_other among kind source reasons s r x h, raiseIfAdmin_frame among kind source reasons s r]
  rfl

/-- Each port receives its own share once, whatever the order in which the ports are served. -/
theorem foldl_raiseIfAdmin_noticeUnit (l : List Port) (hl : l.Nodup) (x : Port) :
    (l.foldl (raiseIfAdmin among kind source reasons) s).noticeUnit x =
      if x ∈ l then (raiseIfAdmin among kind source reasons s x).noticeUnit x else s.noticeUnit x := by
  induction l generalizing s with
  | nil => rfl
  | cons r l ih =>
    obtain ⟨hr, hl⟩ := List.nodup_cons.1 hl
    rw [List.foldl_cons, ih _ hl]
    by_cases hx : x = r
    · subst hx
      rw [if_neg hr, if_pos List.mem_cons_self]
    · simp only [List.mem_cons, hx, false_or, raiseIfAdmin_noticeUnit_after among kind source reasons s r x hx,
        raiseIfAdmin_noticeUnit_other among kind source reasons s r x hx]

theorem raiseToAdmins_noticeUnit (x : Port) :
    (s.raiseToAdmins among kind source reasons).noticeUnit x =
      if s.attachedAdmin x = true ∧ among x = true then
        (s.noticeUnit x).taking
          { kind := kind, source := source, level := (s.interface x).systemLevel, reasons := reasons }
      else s.noticeUnit x := by
  have every : ∀ x, x ∈ Port.all := by decide
  rw [raiseToAdmins_eq_foldl, foldl_raiseIfAdmin_noticeUnit _ _ _ _ _ _ (by decide), if_pos (every x),
    raiseIfAdmin_noticeUnit_same]

end Raise

variable (s : State)

theorem raisePortEvent_noticeUnit (p x : Port) (reasons : Reasons) :
    (s.raisePortEvent p reasons).noticeUnit x = s.afterPortEvent p x reasons := by
  unfold raisePortEvent afterPortEvent
  rw [raiseToAdmins_noticeUnit]
  simp only [decide_eq_true_eq]
  rfl

/-- No port is told of its own event. -/
theorem afterPortEvent_self (p : Port) (reasons : Reasons) : s.afterPortEvent p p reasons = s.noticeUnit p :=
  if_neg fun h => h.2 rfl

/-- What port `x` receives is read from its own entry, system level and notice unit. -/
theorem afterPortEvent_congr {s t : State} {x : Port} (hport : t.port x = s.port x)
    (hlevel : (t.interface x).systemLevel = (s.interface x).systemLevel) (hunit : t.noticeUnit x = s.noticeUnit x)
    (p : Port) (reasons : Reasons) : t.afterPortEvent p x reasons = s.afterPortEvent p x reasons := by
  have hadmin : t.attachedAdmin x = s.attachedAdmin x := by simp only [attachedAdmin, hport]
  simp only [afterPortEvent, portEvent, hadmin, hlevel, hunit]

/-! ## What the port operations write -/

theorem holdsAny_congr {s t : State} (h : t.holdings = s.holdings) (p : Port) : t.holdsAny p = s.holdsAny p := by
  simp only [holdsAny, slots, h]

/-- Every claim of the port is cleared, and no other (R52). -/
theorem clearClaims_queue (p : Port) (q : QueueNo) :
    (s.clearClaims p).queue q =
      if (s.queue q).claimant = some p then { s.queue q with claimant := none } else s.queue q :=
  getElem_mapTable _ s.queues q.val q.isLt

theorem appendPortJob_jobs (p : Port) (x : SettleState) :
    (s.appendPortJob p x).jobs = if s.holdsAny p then s.jobs ++ [.port p x] else s.jobs := by
  unfold appendPortJob
  split <;> rfl

theorem movePort_port_same (p : Port) (x : PortState) (y : SettleState) :
    (s.movePort p x y).port p = { s.port p with state := x, settle := y } := by
  simp [movePort]

theorem movePort_port_other (p r : Port) (x : PortState) (y : SettleState) (h : r ≠ p) :
    (s.movePort p x y).port r = s.port r := s.setPortEntry_port_other p r _ h

/-! ## The target's command slot (R73) -/

theorem fenceSlot_frame (r : Port) : s.fenceSlot r = { s with interfaces := (s.fenceSlot r).interfaces } := by
  unfold fenceSlot
  split <;> rfl

theorem fenceSlot_interface_other (r x : Port) (h : x ≠ r) : (s.fenceSlot r).interface x = s.interface x := by
  unfold fenceSlot
  split
  · rfl
  · simp [idleSlot, writeOutcome, setInterface_interface_other _ _ _ _ h]
  · rfl

theorem fenceSlot_of_idle (r : Port) (h : (s.interface r).slot.status = .idle) : s.fenceSlot r = s := by
  simp only [fenceSlot, h]

/-- A WAITING command of the target is withdrawn with FENCED (R73). -/
theorem fenceSlot_interface_of_waiting (r : Port) (c : CommandRecord)
    (h : (s.interface r).slot.status = .waiting c) :
    (s.fenceSlot r).interface r = (s.interface r).afterCompletion .fenced noResults := by
  simp [fenceSlot, h, idleSlot, writeOutcome, PortInterface.afterCompletion, CommandSlot.idle]

/-! ## The effects of a fence (R139) -/

/-- The effects of a fence before its PORT EVENT is raised (R139). -/
def setAside (s : State) (r : Port) : State :=
  ((((s.fenceSlot r).clearClaims r).emptyNotices r).movePort r (s.fencedState r) .fenced).appendPortJob r .fenced

theorem setAside_frame (r : Port) :
    s.setAside r =
      { s with
        interfaces := (s.fenceSlot r).interfaces
        queues := (s.setAside r).queues
        ports := (s.setAside r).ports
        jobs := (s.setAside r).jobs
        notices := (s.setAside r).notices } := by
  unfold setAside
  rw [appendPortJob_frame, fenceSlot_frame]
  rfl

theorem setAside_interface (r x : Port) : (s.setAside r).interface x = (s.fenceSlot r).interface x := by
  rw [setAside_frame]
  rfl

theorem setAside_queue (r : Port) (q : QueueNo) :
    (s.setAside r).queue q =
      if (s.queue q).claimant = some r then { s.queue q with claimant := none } else s.queue q := by
  unfold setAside
  rw [appendPortJob_queue, fenceSlot_frame]
  exact s.clearClaims_queue r q

theorem setAside_port_same (r : Port) :
    (s.setAside r).port r =
      { s.port r with state := if s.holdsAny r then .reclaiming else .fenced, settle := .fenced } := by
  unfold setAside
  rw [appendPortJob_port, movePort_port_same, fenceSlot_frame]
  rfl

theorem setAside_port_other (r x : Port) (h : x ≠ r) : (s.setAside r).port x = s.port x := by
  unfold setAside
  rw [appendPortJob_port, movePort_port_other _ _ _ _ _ h, fenceSlot_frame]
  rfl

theorem setAside_jobs (r : Port) :
    (s.setAside r).jobs = if s.holdsAny r then s.jobs ++ [.port r .fenced] else s.jobs := by
  unfold setAside
  rw [appendPortJob_jobs, fenceSlot_frame]
  rfl

theorem setAside_noticeUnit_same (r : Port) : (s.setAside r).noticeUnit r = .cleared := by
  unfold setAside
  rw [appendPortJob_noticeUnit]
  exact setNoticeUnit_noticeUnit_same _ r _

theorem setAside_noticeUnit_other (r x : Port) (h : x ≠ r) : (s.setAside r).noticeUnit x = s.noticeUnit x := by
  unfold setAside
  rw [appendPortJob_noticeUnit, fenceSlot_frame]
  exact setNoticeUnit_noticeUnit_other _ r x _ h

end State

section Fence

variable (r : Port) (s : State)

/-- A fence sets the target aside, then tells the other admin ports (R139). -/
theorem fencePortEffect_eq : fencePortEffect r s = (s.setAside r).raisePortEvent r Reasons.fenced := (rfl)

theorem fencePortEffect_frame :
    fencePortEffect r s =
      { s with
        interfaces := (s.fenceSlot r).interfaces
        queues := (fencePortEffect r s).queues
        ports := (fencePortEffect r s).ports
        jobs := (fencePortEffect r s).jobs
        notices := (fencePortEffect r s).notices } := by
  rw [fencePortEffect_eq, State.raisePortEvent_frame, s.setAside_frame]

theorem fencePortEffect_interface (x : Port) :
    (fencePortEffect r s).interface x = (s.fenceSlot r).interface x := by
  rw [fencePortEffect_eq, State.raisePortEvent_interface, s.setAside_interface]

theorem fencePortEffect_noticeUnit_same : (fencePortEffect r s).noticeUnit r = .cleared := by
  rw [fencePortEffect_eq, State.raisePortEvent_noticeUnit, State.afterPortEvent_self,
    s.setAside_noticeUnit_same]

/-- A fence changes nothing that decides what another port receives of its PORT EVENT. -/
theorem fencePortEffect_noticeUnit_other (x : Port) (h : x ≠ r) :
    (fencePortEffect r s).noticeUnit x = s.afterPortEvent r x Reasons.fenced := by
  rw [fencePortEffect_eq, State.raisePortEvent_noticeUnit]
  refine State.afterPortEvent_congr (s.setAside_port_other r x h) ?_ (s.setAside_noticeUnit_other r x h) r _
  rw [s.setAside_interface, s.fenceSlot_interface_other r x h]

end Fence

/-! ## FENCE PORT -/

section FencePort

variable {s : State} {p r : Port} {o : Operands} {x : OutcomeCode}

theorem fencePortCheck_noRight (ha : (s.port p).admin = false) : fencePortCheck s p o = .error .noRight :=
  if_pos ha

theorem fencePortCheck_noPort (ha : (s.port p).admin = true) (hr : o.target? = none) :
    fencePortCheck s p o = .error .badOperand := by
  simp [fencePortCheck, ha, hr]

theorem fencePortCheck_issuer (ha : (s.port p).admin = true) (hr : o.target? = some p) :
    fencePortCheck s p o = .error .badOperand := by
  simp [fencePortCheck, ha, hr]

theorem fencePortCheck_already (ha : (s.port p).admin = true) (hr : o.target? = some r) (hne : r ≠ p)
    (hs : (s.port r).state = .fenced) : fencePortCheck s p o = .ok .already := by
  simp [fencePortCheck, ha, hr, hne, hs]

theorem fencePortCheck_targetBusy (ha : (s.port p).admin = true) (hr : o.target? = some r) (hne : r ≠ p)
    (hs : (s.port r).state = .reclaiming ∨ (s.port r).state = .down) :
    fencePortCheck s p o = .error .targetBusy := by
  rcases hs with hs | hs <;> simp [fencePortCheck, ha, hr, hne, hs]

theorem fencePortCheck_fence (ha : (s.port p).admin = true) (hr : o.target? = some r) (hne : r ≠ p)
    (hs : (s.port r).state = .attached) : fencePortCheck s p o = .ok (.fence r) := by
  simp [fencePortCheck, ha, hr, hne, hs]

theorem exec_fencePort : exec (.fencePort p) s = .next (s.takeCommand p .fencePort (fencePortBody p)) := (rfl)

/-- A FENCE PORT whose body only completes it is answered. -/
theorem exec_fencePort_answered (h : s.takes p .fencePort o)
    (hb : fencePortBody p o (s.startCommand p .fencePort o) =
      (s.startCommand p .fencePort o).complete p x noResults) :
    exec (.fencePort p) s = .next (s.answered p x noResults) := by
  rw [exec_fencePort, s.takeCommand_answered p .fencePort o _ x _ (by decide) h hb]

theorem exec_fencePort_refused (h : s.takes p .fencePort o) (hx : fencePortCheck s p o = .error x) :
    exec (.fencePort p) s = .next (s.answered p x noResults) := by
  have hx' : fencePortCheck (s.startCommand p .fencePort o) p o = .error x := hx
  exact exec_fencePort_answered h (by simp only [fencePortBody, hx'])

theorem exec_fencePort_already (h : s.takes p .fencePort o) (hx : fencePortCheck s p o = .ok .already) :
    exec (.fencePort p) s = .next (s.answered p .ok noResults) := by
  have hx' : fencePortCheck (s.startCommand p .fencePort o) p o = .ok .already := hx
  exact exec_fencePort_answered h (by simp only [fencePortBody, hx'])

theorem exec_fencePort_fence (h : s.takes p .fencePort o) (hx : fencePortCheck s p o = .ok (.fence r)) :
    exec (.fencePort p) s =
      .next ((fencePortEffect r (s.startCommand p .fencePort o)).complete p .ok noResults) := by
  have hx' : fencePortCheck (s.startCommand p .fencePort o) p o = .ok (.fence r) := hx
  rw [exec_fencePort, s.takeCommand_of_takes p .fencePort o _ (by decide) h]
  simp only [fencePortBody, hx']

end FencePort

/-- Settles O41: each clause is the answer that one equation of `fencePortCheck` gives. -/
theorem fencePortChecksInOrder : Obligations.FencePortChecksInOrder := by
  intro s p o h
  refine ⟨fun ha => ?_, fun ha => ⟨fun hr => ?_, fun hr => ?_, fun r hr hne => ⟨fun hs => ?_, fun hs => ?_⟩⟩⟩
  · exact exec_fencePort_refused h (fencePortCheck_noRight ha)
  · exact exec_fencePort_refused h (fencePortCheck_noPort ha hr)
  · exact exec_fencePort_refused h (fencePortCheck_issuer ha hr)
  · exact exec_fencePort_already h (fencePortCheck_already ha hr hne hs)
  · exact exec_fencePort_refused h (fencePortCheck_targetBusy ha hr hne hs)

section FenceCompletion

variable {s : State} {p r : Port} (o : Operands)

/-- The issuer's interface after a fence of another port and its completion (R65). -/
theorem fence_complete_interface_issuer (hne : r ≠ p) (h : s.waits p .fencePort o) :
    ((fencePortEffect r (s.startCommand p .fencePort o)).complete p .ok noResults).interface p =
      (s.interface p).afterCompletion .ok noResults := by
  obtain ⟨-, hslot⟩ := h
  have kept : (fencePortEffect r (s.startCommand p .fencePort o)).interface p =
      (s.startCommand p .fencePort o).interface p := by
    rw [fencePortEffect_interface, State.fenceSlot_interface_other _ r p hne.symm]
  rw [State.complete_interface_same _ p .ok _ (by simp [kept, hslot]), kept]
  simp [PortInterface.afterCompletion, CommandSlot.idle]

/-- The other interfaces are those that the treatment of the target's slot leaves. -/
theorem fence_complete_interface_other (x : Port) (hx : x ≠ p) :
    ((fencePortEffect r (s.startCommand p .fencePort o)).complete p .ok noResults).interface x =
      ((s.startCommand p .fencePort o).fenceSlot r).interface x := by
  rw [State.complete_interface_other _ p x .ok _ hx, fencePortEffect_interface]

end FenceCompletion

/-- Settles O42: the state is that of `setAside`, the PORT EVENT and the completion, read field by field; the
grant before them touches the issuer's interface alone. -/
theorem fencePortSetsTheTargetAside : Obligations.FencePortSetsTheTargetAside := by
  intro s p o r h ha hr hne hs
  have target : (s.startCommand p .fencePort o).interface r = s.interface r :=
    s.startCommand_interface_other p r .fencePort o hne
  refine ⟨_, exec_fencePort_fence h (fencePortCheck_fence ha hr hne hs), ?_, fence_complete_interface_issuer o hne h.2,
    fun hidle => ?_, fun c hwait => ?_, fun x hxp hxr => ?_, fun q => ?_, ?_, fun x hx => ?_, ?_, ?_, fun x hx => ?_, ?_⟩
  · rw [State.complete_lastGranted, fencePortEffect_frame]
    rfl
  · rw [fence_complete_interface_other o r hne, State.fenceSlot_of_idle _ r (by rw [target, hidle]), target]
  · rw [fence_complete_interface_other o r hne,
      State.fenceSlot_interface_of_waiting _ r c (by rw [target, hwait]), target]
  · rw [fence_complete_interface_other o x hxp, State.fenceSlot_interface_other _ r x hxr,
      s.startCommand_interface_other p x .fencePort o hxp]
  · rw [State.complete_queue, fencePortEffect_eq, State.raisePortEvent_queue, State.setAside_queue,
      State.startCommand_queue]
  · rw [State.complete_port, fencePortEffect_eq, State.raisePortEvent_port, State.setAside_port_same,
      State.startCommand_port, State.startCommand_holdsAny]
  · rw [State.complete_port, fencePortEffect_eq, State.raisePortEvent_port,
      State.setAside_port_other _ r x hx, State.startCommand_port]
  · rw [State.complete_jobs, fencePortEffect_eq, State.raisePortEvent_jobs, State.setAside_jobs,
      State.startCommand_jobs, State.startCommand_holdsAny]
  · rw [State.complete_noticeUnit, fencePortEffect_noticeUnit_same]
    rfl
  · rw [State.complete_noticeUnit, fencePortEffect_noticeUnit_other r _ x hx]
    refine State.afterPortEvent_congr (s.startCommand_port ..) ?_ (s.startCommand_noticeUnit ..) r _
    by_cases hxp : x = p
    · rw [hxp, State.startCommand_interface_same]
    · rw [s.startCommand_interface_other p x .fencePort o hxp]
  · -- The goal names the next state on both sides, so the two frames are put together with it opaque.
    have completed := (fencePortEffect r (s.startCommand p .fencePort o)).complete_frame p .ok noResults
    have effect := fencePortEffect_frame r (s.startCommand p .fencePort o)
    generalize (fencePortEffect r (s.startCommand p .fencePort o)).complete p .ok noResults = t at completed ⊢
    generalize fencePortEffect r (s.startCommand p .fencePort o) = e at completed effect
    rw [completed, effect]
    rfl

/-! ## UNFENCE PORT -/

section UnfencePort

variable {s : State} {p r : Port} {o : Operands} {x : OutcomeCode}

theorem unfencePortCheck_noRight (ha : (s.port p).admin = false) : unfencePortCheck s p o = .error .noRight :=
  if_pos ha

theorem unfencePortCheck_noPort (ha : (s.port p).admin = true) (hr : o.target? = none) :
    unfencePortCheck s p o = .error .badOperand := by
  simp [unfencePortCheck, ha, hr]

theorem unfencePortCheck_targetBusy (ha : (s.port p).admin = true) (hr : o.target? = some r)
    (hs : (s.port r).state = .reclaiming ∨ (s.port r).state = .down) :
    unfencePortCheck s p o = .error .targetBusy := by
  rcases hs with hs | hs <;> simp [unfencePortCheck, ha, hr, hs]

theorem unfencePortCheck_ok (ha : (s.port p).admin = true) (hr : o.target? = some r)
    (hs : (s.port r).state = .attached ∨ (s.port r).state = .fenced) : unfencePortCheck s p o = .ok r := by
  rcases hs with hs | hs <;> simp [unfencePortCheck, ha, hr, hs]

theorem unfencePortEffect_of_attached (hs : (s.port r).state = .attached) : unfencePortEffect r s = s := by
  simp only [unfencePortEffect, hs]

theorem unfencePortEffect_of_fenced (hs : (s.port r).state = .fenced) :
    unfencePortEffect r s = s.movePort r .attached .attached := by
  simp only [unfencePortEffect, hs]

theorem exec_unfencePort :
    exec (.unfencePort p) s = .next (s.takeCommand p .unfencePort (unfencePortBody p)) := (rfl)

theorem exec_unfencePort_refused (h : s.takes p .unfencePort o) (hx : unfencePortCheck s p o = .error x) :
    exec (.unfencePort p) s = .next (s.answered p x noResults) := by
  have hx' : unfencePortCheck (s.startCommand p .unfencePort o) p o = .error x := hx
  have hb : unfencePortBody p o (s.startCommand p .unfencePort o) =
      (s.startCommand p .unfencePort o).complete p x noResults := by
    simp only [unfencePortBody, hx']
  rw [exec_unfencePort, s.takeCommand_answered p .unfencePort o _ x _ (by decide) h hb]

theorem exec_unfencePort_passed (h : s.takes p .unfencePort o) (hx : unfencePortCheck s p o = .ok r) :
    exec (.unfencePort p) s =
      .next ((unfencePortEffect r (s.startCommand p .unfencePort o)).complete p .ok noResults) := by
  have hx' : unfencePortCheck (s.startCommand p .unfencePort o) p o = .ok r := hx
  rw [exec_unfencePort, s.takeCommand_of_takes p .unfencePort o _ (by decide) h]
  simp only [unfencePortBody, hx']

/-- Start, a port moved, completion: the command is answered and only the port's entry changes. -/
theorem State.startCommand_movePort_complete {c : CommandCode} (y : PortState) (z : SettleState)
    (h : s.waits p c o) :
    ((s.startCommand p c o).movePort r y z).complete p x noResults =
      (s.answered p x noResults).movePort r y z := by
  rw [s.complete_of_effect ((s.startCommand p c o).movePort r y z) p c o x noResults h.2 rfl]
  rfl

end UnfencePort

/-- Settles O43: the refusals are those of the equations of `unfencePortCheck`, and a command that passes
moves a FENCED port and leaves an ATTACHED one. -/
theorem unfencePortRestoresAFencedPort : Obligations.UnfencePortRestoresAFencedPort := by
  intro s p o h
  refine ⟨fun ha => exec_unfencePort_refused h (unfencePortCheck_noRight ha), fun ha =>
    ⟨fun hr => exec_unfencePort_refused h (unfencePortCheck_noPort ha hr), fun r hr =>
      ⟨fun hs => ?_, fun hs => ?_, fun hs => ?_⟩⟩⟩
  · exact exec_unfencePort_refused h (unfencePortCheck_targetBusy ha hr hs)
  · rw [exec_unfencePort_passed h (unfencePortCheck_ok ha hr (.inl hs)),
      unfencePortEffect_of_attached (by simpa using hs), s.startCommand_complete p _ o _ _ h.2.2]
  · rw [exec_unfencePort_passed h (unfencePortCheck_ok ha hr (.inr hs)),
      unfencePortEffect_of_fenced (by simpa using hs), State.startCommand_movePort_complete _ _ h.2]
    rfl

end Sys2Proof.Machine
end

section
/-! Proofs/QueueAdmin.lean: the checks of DEFINE QUEUE, MODIFY QUEUE and SET PORT, an equation for each outcome,
what a withdrawal leaves pending, and the effects of the three commands. -/

namespace Sys2Proof.Machine

/-! ## A command taken in a RUNNING part -/

section Taken

variable {s : State} {p : Port} {c : CommandCode} {o : Operands} {x : OutcomeCode} {rs : Results}

/-- Past the device-state check, a command does what its own body does after the grant (R65, R71). -/
theorem exec_command_taken (hc : c ≠ .format) (h : s.takes p c o) :
    exec (CommandCode.command p c) s = .next (CommandCode.body p c o (s.startCommand p c o)) := by
  rw [exec_command, s.takeCommand_of_takes p c o _ hc h]

/-- A command whose body only completes it is answered (R66). -/
theorem exec_command_answered (hc : c ≠ .format) (h : s.takes p c o)
    (hb : CommandCode.body p c o (s.startCommand p c o) = (s.startCommand p c o).complete p x rs) :
    exec (CommandCode.command p c) s = .next (s.answered p x rs) := by
  rw [exec_command, s.takeCommand_answered p c o _ x rs hc h hb]

/-- A command whose body completes it after an effect that leaves the interfaces alone: its words are written,
and the rest is the effect's (R65). -/
theorem exec_command_effect (t : State) (hc : c ≠ .format) (h : s.takes p c o)
    (hb : CommandCode.body p c o (s.startCommand p c o) = t.complete p x rs)
    (hi : t.interfaces = (s.startCommand p c o).interfaces) :
    exec (CommandCode.command p c) s =
      .next { t with interfaces := s.interfaces.set p ((s.interface p).afterCompletion x rs) } := by
  rw [exec_command_taken hc h, hb]
  obtain ⟨-, -, hslot⟩ := h
  rw [s.complete_of_effect t p c o x rs hslot hi]

end Taken

/-! ## The accepted settings (R150) -/

theorem QueueSettings.accepted_eq_true (x : QueueSettings) (q : QueueNo) :
    x.accepted q = true ↔
      1 ≤ x.limit ∧ x.limit ≤ 4095 ∧ x.spill ≠ some q ∧ 1 ≤ x.highMark ∧ x.highMark ≤ 4095 ∧
        x.lowMark < x.highMark := by
  simp only [accepted, Bool.and_eq_true, decide_eq_true_eq, and_assoc]

/-! ## DEFINE QUEUE -/

section DefineQueue

variable {s : State} {p : Port} {o : Operands} {q : QueueNo} {x : OutcomeCode}

theorem defineQueueCheck_noRight (ha : (s.port p).admin = false) : defineQueueCheck s p o = .error .noRight :=
  if_pos ha

theorem defineQueueCheck_badQueue (ha : (s.port p).admin = true) (hq : 64 ≤ o.queueField) :
    defineQueueCheck s p o = .error .badOperand := by
  simp [defineQueueCheck, ha, State.queue?_eq_none o hq]

theorem defineQueueCheck_defined (ha : (s.port p).admin = true) (hq : q.val = o.queueField)
    (hs : (s.queue q).state ≠ .undefined) : defineQueueCheck s p o = .error .badOperand := by
  cases hstate : (s.queue q).state with
  | undefined => exact absurd hstate hs
  | active => simp [defineQueueCheck, ha, State.queue?_eq_some o q hq, hstate]
  | purging => simp [defineQueueCheck, ha, State.queue?_eq_some o q hq, hstate]
  | deleting => simp [defineQueueCheck, ha, State.queue?_eq_some o q hq, hstate]

theorem defineQueueCheck_undefined (ha : (s.port p).admin = true) (hq : q.val = o.queueField)
    (hs : (s.queue q).state = .undefined) :
    defineQueueCheck s p o = if o.settings.accepted q = false then .error .badOperand else .ok q := by
  simp [defineQueueCheck, ha, State.queue?_eq_some o q hq, hs]

theorem exec_defineQueue_refused (h : s.takes p .defineQueue o) (hx : defineQueueCheck s p o = .error x) :
    exec (.defineQueue p) s = .next (s.answered p x noResults) := by
  have hx' : defineQueueCheck (s.startCommand p .defineQueue o) p o = .error x := hx
  have hb : defineQueueBody p o (s.startCommand p .defineQueue o) =
      (s.startCommand p .defineQueue o).complete p x noResults := by
    simp only [defineQueueBody, hx']
  exact exec_command_answered (c := .defineQueue) (by decide) h hb

/-- A DEFINE QUEUE that passes its checks writes the descriptor and is answered OK (R151). -/
theorem exec_defineQueue_ok (h : s.takes p .defineQueue o) (hx : defineQueueCheck s p o = .ok q) :
    exec (.defineQueue p) s = .next (defineQueueEffect q o.settings (s.answered p .ok noResults)) := by
  have hx' : defineQueueCheck (s.startCommand p .defineQueue o) p o = .ok q := hx
  have hb : defineQueueBody p o (s.startCommand p .defineQueue o) =
      (defineQueueEffect q o.settings (s.startCommand p .defineQueue o)).complete p .ok noResults := by
    simp only [defineQueueBody, hx']
  exact exec_command_effect (c := .defineQueue) _ (by decide) h hb rfl

end DefineQueue

/-- Settles O36: the refusals are those of the equations of `defineQueueCheck`, the ranges are the two values of
`QueueSettings.accepted`, and a command that passes writes the descriptor alone. -/
theorem defineQueueMakesAnActiveQueue : Obligations.DefineQueueMakesAnActiveQueue := by
  intro s p o h
  refine ⟨fun ha => ?_, fun ha => ⟨fun hq => ?_, fun q hq =>
    ⟨fun hs => ?_, fun hs hrange => ?_, fun hs hlimit hlimit' hspill hhigh hhigh' hlow => ?_⟩⟩⟩
  · exact exec_defineQueue_refused h (defineQueueCheck_noRight ha)
  · exact exec_defineQueue_refused h (defineQueueCheck_badQueue ha hq)
  · exact exec_defineQueue_refused h (defineQueueCheck_defined ha hq hs)
  · have outside : o.settings.accepted q = false := by
      rwa [← o.settings.accepted_eq_true q, Bool.not_eq_true] at hrange
    exact exec_defineQueue_refused h (by rw [defineQueueCheck_undefined ha hq hs, if_pos outside])
  · have inside : o.settings.accepted q = true :=
      (o.settings.accepted_eq_true q).2 ⟨hlimit, hlimit', hspill, hhigh, hhigh', hlow⟩
    rw [exec_defineQueue_ok h (by rw [defineQueueCheck_undefined ha hq hs, if_neg (by simp [inside])])]
    rfl

/-! ## A live queue: the first four checks of MODIFY, PURGE and DELETE QUEUE -/

section LiveQueue

variable {s : State} {p : Port} {o : Operands} {q : QueueNo}

theorem liveQueueCheck_noRight (ha : (s.port p).admin = false) : liveQueueCheck s p o = .error .noRight :=
  if_pos ha

theorem liveQueueCheck_badQueue (ha : (s.port p).admin = true) (hq : 64 ≤ o.queueField) :
    liveQueueCheck s p o = .error .badOperand := by
  simp [liveQueueCheck, ha, State.queue?_eq_none o hq]

theorem liveQueueCheck_noQueue (ha : (s.port p).admin = true) (hq : q.val = o.queueField)
    (hs : (s.queue q).state = .undefined) : liveQueueCheck s p o = .error .noQueue := by
  simp [liveQueueCheck, ha, State.queue?_eq_some o q hq, hs]

theorem liveQueueCheck_queueBusy (ha : (s.port p).admin = true) (hq : q.val = o.queueField)
    (hs : (s.queue q).state = .purging ∨ (s.queue q).state = .deleting) :
    liveQueueCheck s p o = .error .queueBusy := by
  rcases hs with hs | hs <;> simp [liveQueueCheck, ha, State.queue?_eq_some o q hq, hs]

theorem liveQueueCheck_ok (ha : (s.port p).admin = true) (hq : q.val = o.queueField)
    (hs : (s.queue q).state = .active) : liveQueueCheck s p o = .ok q := by
  simp [liveQueueCheck, ha, State.queue?_eq_some o q hq, hs]

end LiveQueue

/-! ## Withdrawals (R129) -/

namespace NoticeUnit

theorem withdrawn_active (u : NoticeUnit) (q : QueueNo) : (u.withdrawn q).active = u.active := (rfl)

/-- A withdrawal takes out the QUEUE record of its queue, whatever the record's level and reasons. -/
theorem mem_withdrawn (u : NoticeUnit) (q : QueueNo) (n : Notice) :
    n ∈ (u.withdrawn q).pendingSet ↔
      n ∈ u.pendingSet ∧ ¬(n.kind = .queue ∧ n.source = BitVec.ofNat 6 q.val) := by
  rw [withdrawn, mem_withoutKey, ← Bool.not_eq_true, Notice.sameKey_iff]

end NoticeUnit

namespace State

variable (s : State) (target : Option Port) (q : QueueNo) (r : Port)

/-- A withdrawal reaches its target's notice unit and no other. -/
theorem withdrawFrom_noticeUnit :
    (s.withdrawFrom target q).noticeUnit r =
      if target = some r then (s.noticeUnit r).withdrawn q else s.noticeUnit r := by
  cases target with
  | none => simp [withdrawFrom]
  | some t =>
    by_cases hr : r = t
    · simp [withdrawFrom, withdraw, hr]
    · simp [withdrawFrom, withdraw, setNoticeUnit_noticeUnit_other _ _ _ _ hr, Ne.symm hr]

theorem withdrawFrom_active :
    ((s.withdrawFrom target q).noticeUnit r).active = (s.noticeUnit r).active := by
  rw [withdrawFrom_noticeUnit, apply_ite NoticeUnit.active, NoticeUnit.withdrawn_active, ite_self]

theorem mem_withdrawFrom (n : Notice) :
    n ∈ ((s.withdrawFrom target q).noticeUnit r).pendingSet ↔
      n ∈ (s.noticeUnit r).pendingSet ∧
        ¬(target = some r ∧ n.kind = .queue ∧ n.source = BitVec.ofNat 6 q.val) := by
  rw [withdrawFrom_noticeUnit]
  by_cases ht : target = some r
  · rw [if_pos ht, NoticeUnit.mem_withdrawn, and_iff_right ht]
  · rw [if_neg ht, and_iff_left fun h => ht h.1]

end State

/-! ## MODIFY QUEUE -/

/-- The withdrawal goes to the old target, and is made where target or level changes or no condition is
left (R154). -/
theorem withdrawalTarget_eq_some (old new : QueueSettings) (r : Port) :
    withdrawalTarget old new = some r ↔
      old.target = some r ∧ (new.target ≠ some r ∨ new.level ≠ old.level ∨ new.conditions = 0) := by
  unfold withdrawalTarget
  rw [Option.ite_none_right_eq_some, and_comm]
  refine and_congr_right fun hold => ?_
  rw [hold]

section ModifyEffect

variable (s : State) (q : QueueNo) (x : QueueSettings)

theorem modifyQueueEffect_frame :
    modifyQueueEffect q x s =
      { s with queues := (modifyQueueEffect q x s).queues, notices := (modifyQueueEffect q x s).notices } := by
  unfold modifyQueueEffect
  rw [State.withdrawFrom_frame]
  rfl

theorem modifyQueueEffect_lastGranted : (modifyQueueEffect q x s).lastGranted = s.lastGranted := by
  rw [modifyQueueEffect_frame]

theorem modifyQueueEffect_interfaces : (modifyQueueEffect q x s).interfaces = s.interfaces := by
  rw [modifyQueueEffect_frame]

theorem modifyQueueEffect_queue_same :
    (modifyQueueEffect q x s).queue q = { s.queue q with settings := x } := by
  simp [modifyQueueEffect]

theorem modifyQueueEffect_queue_other (y : QueueNo) (h : y ≠ q) :
    (modifyQueueEffect q x s).queue y = s.queue y := by
  simp [modifyQueueEffect, s.setQueue_queue_other q y _ h]

theorem modifyQueueEffect_active (r : Port) :
    ((modifyQueueEffect q x s).noticeUnit r).active = (s.noticeUnit r).active :=
  State.withdrawFrom_active _ _ q r

theorem mem_modifyQueueEffect (r : Port) (n : Notice) :
    n ∈ ((modifyQueueEffect q x s).noticeUnit r).pendingSet ↔
      n ∈ (s.noticeUnit r).pendingSet ∧
        ¬((s.queue q).settings.target = some r ∧
          (x.target ≠ some r ∨ x.level ≠ (s.queue q).settings.level ∨ x.conditions = 0) ∧
          n.kind = .queue ∧ n.source = BitVec.ofNat 6 q.val) := by
  rw [modifyQueueEffect, State.mem_withdrawFrom, withdrawalTarget_eq_some, and_assoc]
  rfl

end ModifyEffect

section ModifyQueue

variable {s : State} {p : Port} {o : Operands} {q : QueueNo} {x : OutcomeCode}

theorem modifyQueueCheck_of_liveQueueCheck_error (h : liveQueueCheck s p o = .error x) :
    modifyQueueCheck s p o = .error x := by
  simp only [modifyQueueCheck, h]

/-- The checks of MODIFY QUEUE on an ACTIVE queue: the ranges, then the occupancy (R152). -/
theorem modifyQueueCheck_of_liveQueueCheck_ok (h : liveQueueCheck s p o = .ok q) :
    modifyQueueCheck s p o =
      if o.settings.accepted q = false ∨ o.settings.limit < (s.queue q).occupancy then .error .badOperand
      else .ok q := by
  simp only [modifyQueueCheck, h, ite_or]

theorem exec_modifyQueue_refused (h : s.takes p .modifyQueue o) (hx : modifyQueueCheck s p o = .error x) :
    exec (.modifyQueue p) s = .next (s.answered p x noResults) := by
  have hx' : modifyQueueCheck (s.startCommand p .modifyQueue o) p o = .error x := hx
  have hb : modifyQueueBody p o (s.startCommand p .modifyQueue o) =
      (s.startCommand p .modifyQueue o).complete p x noResults := by
    simp only [modifyQueueBody, hx']
  exact exec_command_answered (c := .modifyQueue) (by decide) h hb

theorem exec_modifyQueue_ok (h : s.takes p .modifyQueue o) (hx : modifyQueueCheck s p o = .ok q) :
    exec (.modifyQueue p) s =
      .next ((modifyQueueEffect q o.settings (s.startCommand p .modifyQueue o)).complete p .ok noResults) := by
  have hx' : modifyQueueCheck (s.startCommand p .modifyQueue o) p o = .ok q := hx
  have hb : modifyQueueBody p o (s.startCommand p .modifyQueue o) =
      (modifyQueueEffect q o.settings (s.startCommand p .modifyQueue o)).complete p .ok noResults := by
    simp only [modifyQueueBody, hx']
  exact (exec_command_taken (c := .modifyQueue) (by decide) h).trans (congrArg _ hb)

end ModifyQueue

/-- Settles O37: the refusals are those of `liveQueueCheck` and the two checks after it; the state of a command
that passes is read field by field from `modifyQueueEffect`. -/
theorem modifyQueueRewritesTheSettings : Obligations.ModifyQueueRewritesTheSettings := by
  intro s p o h
  have refused {x} (hx : liveQueueCheck s p o = .error x) :=
    exec_modifyQueue_refused h (modifyQueueCheck_of_liveQueueCheck_error hx)
  refine ⟨fun ha => refused (liveQueueCheck_noRight ha), fun ha =>
    ⟨fun hq => refused (liveQueueCheck_badQueue ha hq), fun q hq =>
      ⟨fun hs => refused (liveQueueCheck_noQueue ha hq hs), fun hs => refused (liveQueueCheck_queueBusy ha hq hs),
        fun hs hbad => ?_, fun hs haccepted hlimit => ?_⟩⟩⟩
  · have checked := modifyQueueCheck_of_liveQueueCheck_ok (liveQueueCheck_ok ha hq hs)
    exact exec_modifyQueue_refused h (checked.trans (if_pos hbad))
  · have checked := modifyQueueCheck_of_liveQueueCheck_ok (liveQueueCheck_ok ha hq hs)
    rw [if_neg (by simp [haccepted, hlimit])] at checked
    refine ⟨_, exec_modifyQueue_ok h checked, ?_, ?_, fun y hy => ?_, fun r => ⟨?_, fun n => ?_⟩, ?_⟩
    · exact s.completes_of_effect _ p .modifyQueue o _ _ h.2 (modifyQueueEffect_lastGranted ..)
        (modifyQueueEffect_interfaces ..)
    · rw [State.complete_queue, modifyQueueEffect_queue_same, State.startCommand_queue]
    · rw [State.complete_queue, modifyQueueEffect_queue_other _ _ _ y hy, State.startCommand_queue]
    · rw [State.complete_noticeUnit, modifyQueueEffect_active, State.startCommand_noticeUnit]
    · rw [State.complete_noticeUnit, mem_modifyQueueEffect, State.startCommand_noticeUnit,
        State.startCommand_queue]
    · rw [State.complete_frame, modifyQueueEffect_frame]
      rfl

/-! ## SET PORT -/

section SetPort

variable {s : State} {p r : Port} {o : Operands} {x : OutcomeCode}

theorem State.otherAdmin_eq_true (s : State) (r : Port) :
    s.otherAdmin r = true ↔ ∃ x, x ≠ r ∧ (s.port x).admin = true ∧ (s.port x).settle = .attached := by
  have every : ∀ x, x ∈ Port.all := by decide
  simp [otherAdmin, every, and_assoc]

theorem setPortCheck_noRight (ha : (s.port p).admin = false) : setPortCheck s p o = .error .noRight :=
  if_pos ha

theorem setPortCheck_noPort (ha : (s.port p).admin = true) (hr : o.target? = none) :
    setPortCheck s p o = .error .badOperand := by
  simp [setPortCheck, ha, hr]

/-- The checks of SET PORT on port `r`: the quota's range, its held cells, the last admin flag (R159). -/
theorem setPortCheck_target (ha : (s.port p).admin = true) (hr : o.target? = some r) :
    setPortCheck s p o =
      if 4096 < o.quota ∨ o.quota < s.heldCells r ∨ (o.adminFlag = false ∧ s.otherAdmin r = false) then
        .error .badOperand
      else .ok r := by
  simp [setPortCheck, ha, hr, ite_or]

theorem exec_setPort_refused (h : s.takes p .setPort o) (hx : setPortCheck s p o = .error x) :
    exec (.setPort p) s = .next (s.answered p x noResults) := by
  have hx' : setPortCheck (s.startCommand p .setPort o) p o = .error x := hx
  have hb : setPortBody p o (s.startCommand p .setPort o) =
      (s.startCommand p .setPort o).complete p x noResults := by
    simp only [setPortBody, hx']
  exact exec_command_answered (c := .setPort) (by decide) h hb

/-- A SET PORT that passes its checks writes the port's entry and is answered OK. -/
theorem exec_setPort_ok (h : s.takes p .setPort o) (hx : setPortCheck s p o = .ok r) :
    exec (.setPort p) s = .next (setPortEffect r o.quota o.adminFlag (s.answered p .ok noResults)) := by
  have hx' : setPortCheck (s.startCommand p .setPort o) p o = .ok r := hx
  have hb : setPortBody p o (s.startCommand p .setPort o) =
      (setPortEffect r o.quota o.adminFlag (s.startCommand p .setPort o)).complete p .ok noResults := by
    simp only [setPortBody, hx']
  exact exec_command_effect (c := .setPort) _ (by decide) h hb rfl

end SetPort

/-- Settles O40: the refusals are those of the equations of `setPortCheck`, the last of them by what
`otherAdmin` says of the other ports, and a command that passes writes the port's entry alone. -/
theorem setPortWritesQuotaAndAdminFlag : Obligations.SetPortWritesQuotaAndAdminFlag := by
  intro s p o h
  refine ⟨fun ha => exec_setPort_refused h (setPortCheck_noRight ha), fun ha =>
    ⟨fun hr => exec_setPort_refused h (setPortCheck_noPort ha hr), fun r hr =>
      ⟨fun hbad => ?_, fun hmax hheld hadmin => ?_⟩⟩⟩
  · have noOther : (∀ x, x ≠ r → (s.port x).admin = true → (s.port x).settle ≠ .attached) →
        s.otherAdmin r = false := by
      intro hother
      rw [← Bool.not_eq_true, s.otherAdmin_eq_true]
      rintro ⟨x, hx, hadmin, hsettle⟩
      exact hother x hx hadmin hsettle
    have bad := hbad.imp_right (Or.imp_right (And.imp_right noOther))
    exact exec_setPort_refused h ((setPortCheck_target ha hr).trans (if_pos bad))
  · have passed : setPortCheck s p o = .ok r := by
      rw [setPortCheck_target ha hr, if_neg]
      rintro (hover | hbelow | ⟨hclear, hlast⟩)
      · omega
      · omega
      · rw [← s.otherAdmin_eq_true] at hadmin
        simp [hclear, hlast] at hadmin
    rw [exec_setPort_ok h passed]
    rfl

end Sys2Proof.Machine
end

section
/-! Proofs/Changes.lean: what one command can do, said once: the part changes by a chain of single
changes, each with what the command has checked before it. A law that every single change keeps is kept by
every command. -/

namespace Sys2Proof.Machine

/-! ## Single changes -/

/-- The effects of a port reset assertion before a job is appended and the PORT EVENT is raised (R135). -/
def State.portGone (s : State) (p : Port) (settle : SettleState) : State :=
  (s.movePort p .down settle).portResetEffects p

/-- The parts of the state that no law speaks of. -/
structure Plain where
  deviceLine : Bool
  formatRetired : Nat
  parityErrors : List ControlEntry
  lastGranted : Requester
  capture : CaptureRecord
  correctable : BitVec 16
  uncorrectable : BitVec 16
  overflow : BitVec 8

/-- The state with those parts replaced. -/
def State.withPlain (s : State) (x : Plain) : State :=
  { s with
    deviceLine := x.deviceLine
    formatRetired := x.formatRetired
    parityErrors := x.parityErrors
    lastGranted := x.lastGranted
    capture := x.capture
    correctable := x.correctable
    uncorrectable := x.uncorrectable
    overflow := x.overflow }

/-- The record `n` for port `p` is not empty, and a QUEUE record names an evaluated queue that reports to
the port at that level (R44, R58, R119). -/
def State.mayRaise (s : State) (p : Port) (n : Notice) : Prop :=
  n.reasons ≠ 0 ∧ (n.kind = .queue → ∃ q : QueueNo, n.source = BitVec.ofNat 6 q.val ∧
    (s.queue q).evaluated = true ∧ (s.queue q).settings.target = some p ∧ n.level = (s.queue q).settings.level)

/-- One change of the part, with what the command that makes it has checked. -/
inductive Change (s : State) : State → Prop where
  /-- Parity, counts, capture record, grants. -/
  | plain (x : Plain) : Change s (s.withPlain x)
  /-- A store that keeps the canonical form. -/
  | store (m : Memory) (h : Memory.wf s.store = true → Memory.wf m = true) : Change s { s with store := m }
  /-- Words, flags, settings and slot of one port interface; a command waits only at an ATTACHED port. -/
  | interface (p : Port) (i : PortInterface) (hline : i.line = (s.interface p).line)
      (hwait : ∀ r, i.slot.status = .waiting r →
        (s.port p).state = .attached ∨ (s.interface p).slot.status = .waiting r) : Change s (s.setInterface p i)
  /-- Entry to HALTED (R165). -/
  | halted : Change s { s with device := .halted }
  /-- The walk of a HALTED part has stopped (R166). -/
  | walkStopped (hd : s.device = .halted) : Change s { s with walk := none }
  | raise (p : Port) (n : Notice) (h : s.mayRaise p n) : Change s (s.raise p n)
  | push (p : Port) : Change s (s.pushNotice p)
  | pop (p : Port) (top : Notice) (rest : List Notice) (h : (s.noticeUnit p).active = top :: rest) :
      Change s (s.setNoticeUnit p { s.noticeUnit p with active := rest })
  | updateMessage (m : CellNo) (f : Message → Message) (h : ∀ r, (f r).cells = r.cells) :
      Change s (s.updateMessage m f)
  /-- A cell of a message receives its fault mark (R161). -/
  | markCell (m c : CellNo) (hd : s.device ≠ .halted) (hc : c ∈ s.messageCells m) : Change s (s.markCell c)
  | allocate (p : Port) (n : Nat) (i : SlotNo) (m : CellNo) (hd : s.device = .running)
      (h : allocateCheck s p n = .ok (i, m)) : Change s (allocateEffect p n i m s)
  | putFresh (p : Port) (i : SlotNo) (q : QueueNo) (o : Operands) (m : CellNo) (c : Nat)
      (hd : s.device = .running) (ha : (s.queue q).state = .active)
      (hl : (s.queue q).occupancy < (s.queue q).settings.limit) (hh : (s.slot p i).holding = .fresh m c) :
      Change s (Machine.putFresh p i q o m s)
  | putTaken (p : Port) (i : SlotNo) (q : QueueNo) (o : Operands) (m : CellNo) (c : Nat) (f : TakenFields)
      (hd : s.device = .running) (ha : (s.queue q).state = .active)
      (hl : (s.queue q).occupancy < (s.queue q).settings.limit) (hh : (s.slot p i).holding = .taken m c f) :
      Change s (Machine.putTaken p i q o m f s)
  | take (p : Port) (q : QueueNo) (i : SlotNo) (m : CellNo) (e : ListEnd) (hd : s.device = .running)
      (ha : (s.queue q).state = .active) (hm : s.endMessage q e = some m) (hi : (s.slot p i).holding = .empty)
      (hq : s.heldCells p + (s.messageCells m).length ≤ (s.port p).quota) : Change s (takeEffect p q i m e s)
  | release (p : Port) (i : SlotNo) (m : CellNo) (hd : s.device = .running)
      (hm : (s.slot p i).holding.message? = some m) :
      Change s (releaseEffect p i m (s.slot p i).holding.source? s)
  | drop (p : Port) (i : SlotNo) (m : CellNo) (hd : s.device = .running)
      (hm : (s.slot p i).holding.message? = some m) (hs : (s.slot p i).holding.source? = none) :
      Change s (s.dropHolding p i m)
  | renew (p : Port) (i : SlotNo) (m : CellNo) (c : Nat) (f : TakenFields) (hd : s.device = .running)
      (hh : (s.slot p i).holding = .taken m c f) (hs : f.source ≠ none) (ht : f.holdTime ≠ 0) :
      Change s (renewEffect p i m c f (s.tick + f.holdTime.setWidth 32) s)
  | endHolding (p : Port) (i : SlotNo) (m : CellNo) (c : Nat) (f : TakenFields) (q : QueueNo)
      (hd : s.device = .running) (hh : (s.slot p i).holding = .taken m c f) (hs : f.source = some q) :
      Change s (s.endHolding p i m q)
  | dropEntry (e : TimeoutEntry) (he : e ∈ s.timeouts)
      (hh : ∀ f, (s.slot e.port e.slot).holding.taken? = some f → f.source = none) : Change s (s.dropEntry e)
  | claim (p : Port) (o : Operands) (q : QueueNo) (hp : s.presents p .claim = some o)
      (ha : (s.queue q).state = .active) : Change s ((s.startCommand p .claim o).setClaimant q (some p))
  | unclaim (q : QueueNo) (hu : (s.queue q).state ≠ .undefined) : Change s (s.setClaimant q none)
  | format (p : Port) (set : PortSet) (period : TickPeriod) (hd : s.device = .unformatted) (hs : set ≠ 0) :
      Change s
        { s with walk := some { issuer := p, adminSet := set, period := period, next := 0 }, device := .formatting }
  | visitFree (w : FormatWalk) (h : w.next < 4096) (hd : s.device = .formatting) (hw : s.walk = some w) :
      Change s ((s.appendCell ⟨w.next, h⟩).walkNext w)
  | visitRetire (w : FormatWalk) (h : w.next < 4096) (hd : s.device = .formatting) (hw : s.walk = some w) :
      Change s (((s.markCell ⟨w.next, h⟩).retireCell ⟨w.next, h⟩).walkNext w)
  | finishWalk (w : FormatWalk) (hd : s.device = .formatting) (hw : s.walk = some w) (hn : w.next = 4096) :
      Change s (s.finishWalk w)
  | defineQueue (q : QueueNo) (x : QueueSettings) (hd : s.device = .running)
      (hu : (s.queue q).state = .undefined) (hx : x.accepted q = true) : Change s (defineQueueEffect q x s)
  | modifyQueue (q : QueueNo) (x : QueueSettings) (ha : (s.queue q).state = .active) (hx : x.accepted q = true)
      (hl : (s.queue q).occupancy ≤ x.limit) : Change s (modifyQueueEffect q x s)
  | purgeQueue (q : QueueNo) (ha : (s.queue q).state = .active) : Change s (purgeQueueEffect q s)
  | deleteQueue (q : QueueNo) (ha : (s.queue q).state = .active) : Change s (deleteQueueEffect q s)
  | setPort (p r : Port) (quota : Nat) (admin : Bool) (hq : s.heldCells r ≤ quota)
      (ha : admin = true ∨ s.otherAdmin r = true) : Change s (setPortEffect r quota admin s)
  | fencePort (p r : Port) (o : Operands) (hp : s.presents p .fencePort = some o) (hd : s.device = .running)
      (ha : (s.port p).admin = true) (hr : r ≠ p) (hs : (s.port r).state = .attached) :
      Change s ((s.startCommand p .fencePort o).setAside r)
  | unfencePort (r : Port) (hs : (s.port r).state = .fenced) : Change s (s.movePort r .attached .attached)
  | resetPort (p : Port) (o : Operands) (hp : s.presents p .resetPort = some o) :
      Change s ((((s.startCommand p .resetPort o).portGone p .attached).appendPortJob p .attached).releaseReset p)
  | lineAsserted (p : Port) (settle : SettleState)
      (hs : settle = if (s.port p).state = .attached then .attached else (s.port p).settle) :
      Change s ((s.setLine p true).portGone p settle)
  | lineAssertedWithJob (p : Port) (hs : (s.port p).state = .attached) :
      Change s (((s.setLine p true).portGone p .attached).appendPortJob p .attached)
  | lineReleased (p : Port) (hl : (s.interface p).line = true) : Change s ((s.setLine p false).releaseReset p)
  | walkHead (q : QueueNo) (m : CellNo) (delete : Bool) (js : List Job) (hd : s.device = .running)
      (hj : s.jobs = (if delete then .delete q else .purge q) :: js) (hm : (s.queue q).head? = some m) :
      Change s (s.walkHead q m)
  | endWalk (q : QueueNo) (delete : Bool) (js : List Job) (hd : s.device = .running)
      (hj : s.jobs = (if delete then .delete q else .purge q) :: js) (hl : (s.queue q).list = []) :
      Change s (s.endWalk q delete)
  | portJobDone (p : Port) (e : SettleState) (js : List Job) (hd : s.device = .running)
      (hj : s.jobs = .port p e :: js) :
      Change s
        (if (s.port p).state = .reclaiming then s.popJob.movePort p e.toPortState (s.port p).settle else s.popJob)
  | advanceTick (hd : s.device = .running) : Change s s.advanceTick
  | markDue : Change s s.markDue
  | powerOn (lines : PortSet) : Change s { State.poweredOn lines with pending := s.pending }
  | deviceReset : Change s s.deviceReset

/-- A chain of single changes. -/
abbrev Changes : State → State → Prop := Relation.ReflTransGen Change


/-! ## The chains of the shared operations -/

namespace Changes

variable {s t : State}

theorem single (h : Change s t) : Changes s t := Relation.ReflTransGen.single h

/-- A law that every single change keeps is kept by a chain. -/
theorem keep {P : State → Prop} (law : ∀ s t, Change s t → P s → P t) (h : Changes s t) (hs : P s) : P t := by
  induction h with
  | refl => exact hs
  | tail _ hc ih => exact law _ _ hc ih

theorem upset (u : Upset) : Changes s (s.upset u) := by
  rw [State.upset_frame]
  exact single (.plain ⟨s.deviceLine, s.formatRetired, (s.upset u).parityErrors, s.lastGranted, s.capture,
    s.correctable, s.uncorrectable, s.overflow⟩)

theorem grantTo (r : Requester) : Changes s (s.grantTo r) :=
  single (.plain ⟨s.deviceLine, s.formatRetired, s.parityErrors, r, s.capture, s.correctable, s.uncorrectable,
    s.overflow⟩)

/-- A write of an interface that makes no command wait. -/
theorem interface (p : Port) (i : PortInterface) (hline : i.line = (s.interface p).line)
    (hslot : i.slot.status = (s.interface p).slot.status ∨ i.slot.status = .idle) :
    Changes s (s.setInterface p i) := by
  refine single (.interface p i hline fun r hr => ?_)
  rcases hslot with h | h
  · exact .inr (h.symm.trans hr)
  · simp [h] at hr

theorem start (p : Port) (c : CommandCode) (o : Operands) : Changes s (s.startCommand p c o) := by
  refine (grantTo (.port p)).tail (.interface p _ rfl fun r hr => ?_)
  cases hr

theorem idleSlot (p : Port) : Changes s (s.idleSlot p) := interface p _ rfl (.inr rfl)

theorem writeOutcome (p : Port) (x : OutcomeCode) (rs : Results) : Changes s (s.writeOutcome p x rs) :=
  interface p _ rfl (.inl rfl)

theorem complete (p : Port) (x : OutcomeCode) (rs : Results) : Changes s (s.complete p x rs) := by
  unfold State.complete
  split
  · exact idleSlot p
  · exact (writeOutcome p x rs).trans (idleSlot p)

theorem setFlag (p : Port) (f : StickyFlag) : Changes s (s.setFlag p f) := by
  unfold State.setFlag
  split
  · exact .refl
  · cases f <;> exact interface p _ rfl (.inl rfl)

theorem drive (p : Port) (w : Word) : Changes s (s.drive p w) := interface p _ rfl (.inl rfl)

theorem halt (e : ControlEntry) (a : Agent) : Changes s (s.halt e a) :=
  (single (.halted)).tail (.plain ⟨s.deviceLine, s.formatRetired, s.parityErrors, s.lastGranted,
    State.linkRecord e a, s.correctable, s.uncorrectable, s.overflow⟩)

theorem writeEntry (e : ControlEntry) : Changes s (s.writeEntry e) :=
  single (.plain ⟨s.deviceLine, s.formatRetired, (s.writeEntry e).parityErrors, s.lastGranted, s.capture,
    s.correctable, s.uncorrectable, s.overflow⟩)

theorem raiseSystem (p : Port) (k : NoticeKind) (x : BitVec 6) (g : Reasons) (hk : k ≠ .queue) (hg : g ≠ 0) :
    Changes s (s.raiseSystem p k x g) :=
  single (.raise p _ ⟨hg, fun h => absurd h hk⟩)

theorem raiseToAdmins (among : Port → Bool) (k : NoticeKind) (x : BitVec 6) (g : Reasons) (hk : k ≠ .queue)
    (hg : g ≠ 0) : Changes s (s.raiseToAdmins among k x g) := by
  unfold State.raiseToAdmins
  generalize Port.all = l
  induction l generalizing s with
  | nil => exact .refl
  | cons r l ih =>
    rw [List.foldl_cons]
    refine Relation.ReflTransGen.trans ?_ ih
    split
    · exact raiseSystem r k x g hk hg
    · exact .refl

theorem raisePortEvent (p : Port) (g : Reasons) (hg : g ≠ 0) : Changes s (s.raisePortEvent p g) :=
  raiseToAdmins _ _ _ _ (by decide) hg

/-- A command of the engine: its own body follows in a part that the device-state check lets pass. -/
theorem takeCommand (p : Port) (c : CommandCode) (body : Operands → State → State)
    (h : ∀ o, s.presents p c = some o → s.deviceCheck c = none → Changes s (body o (s.startCommand p c o))) :
    Changes s (s.takeCommand p c body) := by
  unfold State.takeCommand
  split
  · exact .refl
  · next o hp =>
    split
    · exact (start p c o).trans (complete p _ _)
    · next hd => exact h o hp hd

theorem commandReads (p : Port) (reads : List ControlEntry) (effect : State → State) (h : Changes s (effect s)) :
    Changes s (s.commandReads p reads effect) := by
  unfold State.commandReads
  split
  · exact (halt _ _).trans (complete p _ _)
  · exact h

theorem requestReads (a : Agent) (reads : List ControlEntry) (effect : State → State) (h : Changes s (effect s)) :
    Changes s (s.requestReads a reads effect) := by
  unfold State.requestReads
  split
  · exact halt _ _
  · exact h

end Changes

/-- Past the device-state check every command but FORMAT finds a RUNNING part (R14). -/
theorem State.running_of_deviceCheck {s : State} {c : CommandCode} (hc : c ≠ .format)
    (h : s.deviceCheck c = none) : s.device = .running := by
  cases hd : s.device <;> simp [deviceCheck, hd, hc] at h ⊢

/-- FORMAT is let pass in an UNFORMATTED part alone (R14). -/
theorem State.unformatted_of_deviceCheck {s : State} (h : s.deviceCheck .format = none) :
    s.device = .unformatted := by
  cases hd : s.device <;> simp [deviceCheck, hd] at h ⊢

/-- A command other than FORMAT: where it is granted in a RUNNING part, its body's chain follows the grant. -/
theorem Changes.command {s : State} (p : Port) (c : CommandCode) (body : Operands → State → State) (hc : c ≠ .format)
    (h : ∀ o (t : State), t.device = .running → Changes t (body o t)) : Changes s (s.takeCommand p c body) :=
  takeCommand p c body fun o _ hd =>
    (start p c o).trans (h o _ (State.running_of_deviceCheck hc hd))


/-! ## The chain of each command -/

/-- What an ALLOCATE, a PUT or a TAKE that passes its checks has found. -/
theorem putCheck_eq_ok {s : State} {p : Port} {o : Operands} {i : SlotNo} {q : QueueNo}
    (h : putCheck s p o = .ok (i, q)) :
    (s.queue q).state = .active ∧ (s.queue q).occupancy < (s.queue q).settings.limit ∧
      (s.queue q).settings.putSet.getLsbD p.val = true ∧ s.names p o.handle i ∧ o.queue? = some q ∧
      (s.slot p i).holding.acceptsLength o.length = true := by
  unfold putCheck at h
  split at h
  · cases h
  · next j hj =>
    split at h
    · cases h
    · next x hx =>
      split at h
      · cases h
      · cases h
      · cases h
      · next ha =>
        split at h
        · cases h
        · next hr =>
          split at h
          · cases h
          · next hlen =>
            split at h
            · cases h
            · next hl =>
              cases h
              exact ⟨ha, by omega, by simpa using hr, (s.validHandle_eq_some p o.handle i).1 hj, hx,
                by simpa using hlen⟩

theorem claimCheck_eq_ok {s : State} {p : Port} {o : Operands} {q : QueueNo} (h : claimCheck s p o = .ok q) :
    (s.queue q).state = .active ∧ o.queue? = some q := by
  unfold claimCheck at h
  split at h
  · cases h
  · next x hx =>
    split at h
    · cases h
    · cases h
    · cases h
    · next ha =>
      split at h
      · cases h
      · split at h
        · cases h
        · cases h
          exact ⟨ha, hx⟩

theorem takeCheck_eq_ok {s : State} {p : Port} {o : Operands} {q : QueueNo} {i : SlotNo} {m : CellNo}
    (h : takeCheck s p o = .ok (q, i, m)) :
    (s.queue q).state = .active ∧ s.endMessage q o.listEnd = some m ∧ s.freeSlot p = some i := by
  rw [takeCheck_eq_claimCheck_bind] at h
  cases hc : claimCheck s p o with
  | error x => simp [hc, Except.bind] at h
  | ok q' =>
    rw [hc] at h
    simp only [Except.bind, takeEndCheck] at h
    split at h
    · cases h
    · next m' hm =>
      split at h
      · cases h
      · next i' hi =>
        cases h
        exact ⟨(claimCheck_eq_ok hc).1, hm, hi⟩

theorem liveQueueCheck_eq_ok {s : State} {p : Port} {o : Operands} {q : QueueNo}
    (h : liveQueueCheck s p o = .ok q) : (s.queue q).state = .active := by
  unfold liveQueueCheck at h
  split at h
  · cases h
  · split at h
    · cases h
    · split at h
      · cases h
      · cases h
      · cases h
      · next ha => cases h; exact ha

namespace Changes

variable {s : State} (p : Port) (u : Upset)

theorem allocate : Changes s ((s.upset u).takeCommand p .allocate (allocateBody p)) := by
  refine (upset u).trans (command p _ _ (by decide) fun o t hd => ?_)
  unfold allocateBody
  split
  · exact complete p _ _
  · next i m h => exact commandReads p _ _ ((single (.allocate p _ i m hd h)).trans (complete p _ _))

theorem putEffect {t : State} (i : SlotNo) (q : QueueNo) (o : Operands) (hd : t.device = .running)
    (ha : (t.queue q).state = .active) (hl : (t.queue q).occupancy < (t.queue q).settings.limit) :
    Changes t (Machine.putEffect p i q o t) := by
  unfold Machine.putEffect
  split
  · exact .refl
  · next m c h => exact single (.putFresh p i q o m c hd ha hl h)
  · next m c f h => exact single (.putTaken p i q o m c f hd ha hl h)

theorem put : Changes s ((s.upset u).takeCommand p .put (putBody p)) := by
  refine (upset u).trans (command p _ _ (by decide) fun o t hd => ?_)
  unfold putBody
  split
  · exact complete p _ _
  · next i q h =>
    obtain ⟨ha, hl, -⟩ := putCheck_eq_ok h
    exact commandReads p _ _ ((putEffect p i q o hd ha hl).trans (complete p _ _))

theorem take : Changes s ((s.upset u).takeCommand p .take (takeBody p)) := by
  refine (upset u).trans (command p _ _ (by decide) fun o t hd => ?_)
  unfold takeBody
  split
  · exact complete p _ _
  · next q i m h =>
    obtain ⟨ha, hm, hi⟩ := takeCheck_eq_ok h
    refine commandReads p _ _ ?_
    split
    · exact complete p _ _
    · next hq =>
      exact commandReads p _ _ ((single (.take p q i m _ hd ha hm ((t.freeSlot_eq_some p i).1 hi).1
        (Nat.not_lt.1 hq))).trans (complete p _ _))

theorem release : Changes s ((s.upset u).takeCommand p .release (releaseBody p)) := by
  refine (upset u).trans (command p _ _ (by decide) fun o t hd => ?_)
  unfold releaseBody
  split
  · exact complete p _ _
  · split
    · exact complete p _ _
    · next m hm => exact commandReads p _ _ ((single (.release p _ m hd hm)).trans (complete p _ _))

theorem renew : Changes s (s.takeCommand p .renew (renewBody p)) := by
  refine command p _ _ (by decide) fun o t hd => ?_
  unfold renewBody
  split
  · exact complete p _ _
  · split
    · exact complete p _ _
    · exact complete p _ _
    · next m c f hh =>
      split
      · exact complete p _ _
      · next hs =>
        split
        · exact complete p _ _
        · next ht => exact (single (.renew p _ m c f hd hh hs ht)).trans (complete p _ _)

theorem giveBack : Changes s ((s.upset u).takeCommand p .giveBack (returnBody p)) := by
  refine (upset u).trans (command p _ _ (by decide) fun o t hd => ?_)
  unfold returnBody
  split
  · exact complete p _ _
  · next i hi =>
    split
    · exact complete p _ _
    · exact complete p _ _
    · next m c f hh =>
      split
      · next hs =>
        exact commandReads p _ _ ((single (.drop p i m hd (by rw [hh]; rfl) (by rw [hh]; exact hs))).trans
          (complete p _ _))
      · next q hs => exact commandReads p _ _ ((single (.endHolding p i m c f q hd hh hs)).trans (complete p _ _))

theorem query : Changes s (s.takeCommand p .query (queryBody p)) := by
  refine command p _ _ (by decide) fun o t hd => ?_
  unfold queryBody
  split <;> exact complete p _ _

theorem claim : Changes s (s.takeCommand p .claim (claimBody p)) := by
  refine takeCommand p _ _ fun o hp hd => ?_
  unfold claimBody
  split
  · exact (start p _ o).trans (complete p _ _)
  · next q h =>
    exact (single (.claim p o q hp (by simpa using (claimCheck_eq_ok h).1))).trans (complete p _ _)

theorem unclaim : Changes s (s.takeCommand p .unclaim (unclaimBody p)) := by
  refine command p _ _ (by decide) fun o t hd => ?_
  unfold unclaimBody
  split
  · exact complete p _ _
  · next q h =>
    refine (single (.unclaim q ?_)).trans (complete p _ _)
    unfold unclaimCheck at h
    split at h
    · cases h
    · split at h
      · cases h
      · next hu =>
        split at h
        · cases h
        · cases h
          exact hu

theorem format : Changes s (s.takeCommand p .format (formatBody p)) := by
  refine takeCommand p _ _ fun o hp hd => (start p .format o).trans ?_
  have hd' : (s.startCommand p .format o).device = .unformatted := State.unformatted_of_deviceCheck hd
  unfold formatBody
  split
  · exact complete p _ _
  · next period h =>
    have hset : o.adminSet ≠ 0 := by
      intro h0
      simp [formatCheck, h0] at h
    refine (single (.plain ⟨s.deviceLine, 0, s.parityErrors, .port p, s.capture, s.correctable, s.uncorrectable,
      s.overflow⟩)).tail ?_
    exact .format p o.adminSet period hd' hset

theorem defineQueue : Changes s (s.takeCommand p .defineQueue (defineQueueBody p)) := by
  refine command p _ _ (by decide) fun o t hd => ?_
  unfold defineQueueBody
  split
  · exact complete p _ _
  · next q h =>
    unfold defineQueueCheck at h
    split at h
    · cases h
    · split at h
      · cases h
      · split at h
        · cases h
        · cases h
        · cases h
        · next hu =>
          split at h
          · cases h
          · next hx =>
            cases h
            exact (single (.defineQueue q _ hd hu (by simpa using hx))).trans (complete p _ _)

theorem modifyQueue : Changes s (s.takeCommand p .modifyQueue (modifyQueueBody p)) := by
  refine command p _ _ (by decide) fun o t hd => ?_
  unfold modifyQueueBody
  split
  · exact complete p _ _
  · next q h =>
    unfold modifyQueueCheck at h
    split at h
    · cases h
    · next hlive =>
      split at h
      · cases h
      · next hx =>
        split at h
        · cases h
        · next hl =>
          cases h
          exact (single (.modifyQueue q _ (liveQueueCheck_eq_ok hlive) (by simpa using hx) (by omega))).trans
            (complete p _ _)

theorem purgeQueue : Changes s (s.takeCommand p .purgeQueue (purgeQueueBody p)) := by
  refine command p _ _ (by decide) fun o t hd => ?_
  unfold purgeQueueBody
  split
  · exact complete p _ _
  · next q h => exact (single (.purgeQueue q (liveQueueCheck_eq_ok h))).trans (complete p _ _)

theorem deleteQueue : Changes s (s.takeCommand p .deleteQueue (deleteQueueBody p)) := by
  refine command p _ _ (by decide) fun o t hd => ?_
  unfold deleteQueueBody
  split
  · exact complete p _ _
  · next q h => exact (single (.deleteQueue q (liveQueueCheck_eq_ok h))).trans (complete p _ _)

theorem setPort : Changes s (s.takeCommand p .setPort (setPortBody p)) := by
  refine command p _ _ (by decide) fun o t hd => ?_
  unfold setPortBody
  split
  · exact complete p _ _
  · next r h =>
    unfold setPortCheck at h
    split at h
    · cases h
    · split at h
      · cases h
      · split at h
        · cases h
        · split at h
          · cases h
          · next hq =>
            split at h
            · cases h
            · next ha =>
              cases h
              refine (single (.setPort p r _ _ (Nat.not_lt.1 hq) ?_)).trans (complete p _ _)
              rcases hf : o.adminFlag with _ | _
              · exact .inr (by simpa [hf] using ha)
              · exact .inl rfl

theorem fencePort : Changes s (s.takeCommand p .fencePort (fencePortBody p)) := by
  refine takeCommand p _ _ fun o hp hd => ?_
  unfold fencePortBody
  split
  · exact (start p _ o).trans (complete p _ _)
  · exact (start p _ o).trans (complete p _ _)
  · next r h =>
    rw [fencePortEffect_eq]
    unfold fencePortCheck at h
    split at h
    · cases h
    · next ha =>
      split at h
      · cases h
      · split at h
        · cases h
        · next hr =>
          split at h
          · cases h
          · cases h
          · cases h
          · next hs =>
            cases h
            exact ((single (.fencePort p r o hp (State.running_of_deviceCheck (by decide) hd)
              (by simpa using ha) hr (by simpa using hs))).trans (raisePortEvent r _ (by decide))).trans
                (complete p _ _)

theorem unfencePort : Changes s (s.takeCommand p .unfencePort (unfencePortBody p)) := by
  refine command p _ _ (by decide) fun o t hd => ?_
  unfold unfencePortBody
  split
  · exact complete p _ _
  · next r h =>
    refine Relation.ReflTransGen.trans ?_ (complete p _ _)
    unfold unfencePortEffect
    split
    · next hs => exact single (.unfencePort r hs)
    · exact .refl
    · exact .refl
    · exact .refl


end Changes

/-! ### Reset lines and RESET PORT -/

/-- Two states with the same notice units have the same table of them. -/
theorem State.notices_eq {s t : State} (h : ∀ x, s.noticeUnit x = t.noticeUnit x) : s.notices = t.notices :=
  Vector.ext fun i hi => h ⟨i, hi⟩

namespace State

variable (s : State) (p : Port)

theorem releaseReset_port_same :
    (s.releaseReset p).port p =
      { s.port p with state := if s.hasPortJob p then .reclaiming else (s.port p).settle.toPortState } := by
  simp [releaseReset, movePort]

theorem releaseReset_port_other (r : Port) (h : r ≠ p) : (s.releaseReset p).port r = s.port r := by
  simp [releaseReset, movePort, setPortEntry_port_other _ _ _ _ h]

theorem releaseReset_interface_same :
    (s.releaseReset p).interface p =
      { s.interface p with outcome := emptyOutcome, operands := Vector.replicate 8 0, results := noResults } := by
  simp [releaseReset]

theorem releaseReset_interface_other (r : Port) (h : r ≠ p) : (s.releaseReset p).interface r = s.interface r := by
  simp [releaseReset, movePort, setInterface_interface_other _ _ _ _ h]

theorem releaseReset_frame :
    s.releaseReset p =
      { s with ports := (s.releaseReset p).ports, interfaces := (s.releaseReset p).interfaces } := (rfl)

/-- A port's own event and the release of its reset touch nothing of each other's. -/
theorem raisePortEvent_releaseReset (g : Reasons) :
    (s.raisePortEvent p g).releaseReset p = (s.releaseReset p).raisePortEvent p g := by
  have units : (s.raisePortEvent p g).notices = ((s.releaseReset p).raisePortEvent p g).notices := by
    refine notices_eq fun x => ?_
    rw [raisePortEvent_noticeUnit, raisePortEvent_noticeUnit]
    by_cases hx : x = p
    · rw [hx, afterPortEvent_self, afterPortEvent_self]
      rfl
    · exact (afterPortEvent_congr (s.releaseReset_port_other p x hx)
        (by rw [s.releaseReset_interface_other p x hx]) rfl p g).symm
  rw [s.raisePortEvent_frame, (s.releaseReset p).raisePortEvent_frame, ← units]
  rfl

theorem resetFromAttached_of_not_halted (h : s.device ≠ .halted) :
    s.resetFromAttached p = ((s.portGone p .attached).appendPortJob p .attached).raisePortEvent p Reasons.reset :=
  if_neg h

theorem resetFromAttached_of_halted (h : s.device = .halted) :
    s.resetFromAttached p = s.portGone p .attached := if_pos h

end State

namespace Changes

variable {s : State} (p : Port) (u : Upset)

theorem resetPort : Changes s (s.takeCommand p .resetPort (resetPortBody p)) := by
  refine takeCommand p _ _ fun o hp hd => ?_
  have hrun : (s.startCommand p .resetPort o).device ≠ .halted := by
    rw [State.startCommand_device, State.running_of_deviceCheck (by decide) hd]
    decide
  unfold resetPortBody
  rw [State.resetFromAttached_of_not_halted _ p hrun, State.raisePortEvent_releaseReset]
  exact (single (.resetPort p o hp)).trans (raisePortEvent p _ (by decide))

theorem lineAsserted (p : Port) (hs : (s.port p).state ≠ .attached) :
    Changes s ((s.setLine p true).resetFromElsewhere p) := by
  have gone : Changes s ((s.setLine p true).portGone p (s.port p).settle) :=
    single (.lineAsserted p _ (by rw [if_neg hs]))
  unfold State.resetFromElsewhere
  dsimp only
  split
  · exact gone
  · exact gone.trans (raisePortEvent p _ (by decide))

theorem portResetLineAsserted {t : State} (h : execPortResetLineAsserted p s = .next t) : Changes s t := by
  cases h
  split
  · exact .refl
  · next hl =>
    split
    · next hs =>
      by_cases hd : (s.setLine p true).device = .halted
      · rw [State.resetFromAttached_of_halted _ p hd]
        exact single (.lineAsserted p .attached (by rw [if_pos hs]))
      · rw [State.resetFromAttached_of_not_halted _ p hd]
        exact (single (.lineAssertedWithJob p hs)).trans (raisePortEvent p _ (by decide))
    · next hs => exact lineAsserted p (by rw [hs]; decide)
    · next hs => exact lineAsserted p (by rw [hs]; decide)
    · next hs => exact lineAsserted p (by rw [hs]; decide)

theorem portResetLineReleased {t : State} (h : execPortResetLineReleased p s = .next t) : Changes s t := by
  cases h
  split
  · next hl => exact single (.lineReleased p hl)
  · exact .refl

theorem deviceResetLineAsserted {t : State} (h : execDeviceResetLineAsserted s = .next t) : Changes s t := by
  cases h
  split
  · exact .refl
  · exact single .deviceReset

theorem deviceResetLineReleased {t : State} (h : execDeviceResetLineReleased s = .next t) : Changes s t := by
  cases h
  exact single (.plain ⟨false, s.formatRetired, s.parityErrors, s.lastGranted, s.capture, s.correctable,
    s.uncorrectable, s.overflow⟩)

end Changes

/-! ### The format walk -/

theorem State.formatCell_frame (s : State) (c : CellNo) (flips : Vector Flips 8) :
    s.formatCell c flips = { s with store := (s.formatCell c flips).store } := by
  unfold formatCell
  generalize WordNo.all = l
  induction l generalizing s with
  | nil => rfl
  | cons w l ih => rw [List.foldl_cons, ih]; rfl

theorem State.formatCell_device (s : State) (c : CellNo) (flips : Vector Flips 8) :
    (s.formatCell c flips).device = s.device := by rw [formatCell_frame]

theorem State.formatCell_walk (s : State) (c : CellNo) (flips : Vector Flips 8) :
    (s.formatCell c flips).walk = s.walk := by rw [formatCell_frame]

namespace Changes

variable {s t : State} (p : Port) (u : Upset)

theorem formatCell (c : CellNo) (flips : Vector Flips 8) : Changes s (s.formatCell c flips) := by
  rw [State.formatCell_frame]
  exact single (.store _ (s.formatCell_wf c flips))

theorem visitCell (w : FormatWalk) (h : w.next < 4096) (flips : Vector Flips 8) (hd : s.device = .formatting)
    (hw : s.walk = some w) : Changes s (s.visitCell w ⟨w.next, h⟩ flips) := by
  have formatted := formatCell (s := s) ⟨w.next, h⟩ flips
  have hd' := (s.formatCell_device ⟨w.next, h⟩ flips).trans hd
  have hw' := (s.formatCell_walk ⟨w.next, h⟩ flips).trans hw
  unfold State.visitCell
  split
  · split
    · next e _ => exact ((halt e .engine).tail (.walkStopped rfl)).trans (complete _ _ _)
    · exact formatted.tail (.visitFree w h hd' hw')
  · exact (formatted.tail (.visitRetire w h hd' hw')).tail
      (.plain ⟨_, s.formatRetired + 1, _, _, _, _, _, _⟩)

theorem formatWalkCell (flips : Vector Flips 8) (h : execFormatWalkCell flips u s = .next t) : Changes s t := by
  cases h
  split
  · next hd =>
    split
    · exact upset u
    · next w hw =>
      split
      · next hlt => exact (upset u).trans (visitCell w hlt flips (by simpa using hd) (by simpa using hw))
      · exact upset u
  · exact upset u

theorem walkCompletion (h : execWalkCompletion s = .next t) : Changes s t := by
  cases h
  split
  · next hd =>
    split
    · exact .refl
    · next w hw =>
      split
      · next hn => exact (single (.finishWalk w hd hw hn)).trans (complete _ _ _)
      · exact .refl
  · exact .refl

end Changes

/-! ### The hold timer and the reclaim unit -/

theorem State.requests_of_granted {s : State} {r : Requester} (h : s.granted = some r) : s.requests r = true :=
  List.find?_some h

theorem State.running_of_reclaimGrant {s : State} (h : s.granted = some .reclaimUnit) : s.device = .running := by
  have := State.requests_of_granted h
  simp only [requests, Bool.and_eq_true, beq_iff_eq] at this
  exact this.1

theorem State.running_of_timerGrant {s : State} (h : s.granted = some .holdTimer) : s.device = .running := by
  have := State.requests_of_granted h
  simp only [requests, Bool.and_eq_true, beq_iff_eq] at this
  exact this.1

namespace Changes

variable {s t : State} (p : Port) (u : Upset)

theorem expire (e : TimeoutEntry) (he : e ∈ s.timeouts) (hd : s.device = .running) : Changes s (s.expire e) := by
  unfold State.expire
  split
  · next hh => exact single (.dropEntry e he fun f hf => by simp [hh, Holding.taken?] at hf)
  · next hh => exact single (.dropEntry e he fun f hf => by simp [hh, Holding.taken?] at hf)
  · next m c f hh =>
    split
    · next hs =>
      refine single (.dropEntry e he fun f' hf => ?_)
      rw [hh] at hf
      cases hf
      exact hs
    · next q hs =>
      exact requestReads _ _ _ ((single (.endHolding _ _ m c f q hd hh hs)).trans
        (raiseSystem _ _ _ _ (by decide) (by decide)))

theorem expiry : Changes s (s.upset u).timerGrant := by
  refine (upset u).trans ?_
  unfold State.timerGrant
  split
  · next hg =>
    have hd := State.running_of_timerGrant hg
    split
    · exact .refl
    · next e he => exact (grantTo _).trans (expire e (List.mem_of_find?_eq_some he) hd)
  · exact .refl

theorem completePortJob (e : SettleState) (js : List Job) (hd : s.device = .running)
    (hj : s.jobs = .port p e :: js) : Changes s (s.completePortJob p e) :=
  (single (.portJobDone p e js hd hj)).trans (raisePortEvent p _ (by decide))

theorem completeIfEmpty (e : SettleState) (js : List Job) (hd : s.device = .running)
    (hj : s.jobs = .port p e :: js) : Changes s (s.completeIfEmpty p e) := by
  unfold State.completeIfEmpty
  split
  · exact .refl
  · exact completePortJob p e js hd hj

theorem reclaimHolding (i : SlotNo) (hd : s.device = .running) :
    Changes s (s.reclaimHolding p i (s.slot p i).holding) := by
  unfold State.reclaimHolding
  split
  · exact .refl
  · next m c hh => exact single (.drop p i m hd (by rw [hh]; rfl) (by rw [hh]; rfl))
  · next m c f hh =>
    split
    · next hs => exact single (.drop p i m hd (by rw [hh]; rfl) (by rw [hh]; exact hs))
    · next q hs => exact single (.endHolding p i m c f q hd hh hs)

end Changes

theorem State.reclaimHolding_device (s : State) (p : Port) (i : SlotNo) (h : Holding) :
    (s.reclaimHolding p i h).device = s.device := by
  unfold reclaimHolding
  split
  · rfl
  · simp
  · split <;> simp

theorem State.reclaimHolding_jobs (s : State) (p : Port) (i : SlotNo) (h : Holding) :
    (s.reclaimHolding p i h).jobs = s.jobs := by
  unfold reclaimHolding
  split
  · rfl
  · simp
  · split <;> simp

theorem State.walkHead_device (s : State) (q : QueueNo) (m : CellNo) : (s.walkHead q m).device = s.device := by
  simp [walkHead, raiseDiscarded]

theorem State.walkHead_jobs (s : State) (q : QueueNo) (m : CellNo) : (s.walkHead q m).jobs = s.jobs := by
  simp [walkHead, raiseDiscarded]

namespace Changes

variable {s t : State} (p : Port) (u : Upset)

theorem portStep (e : SettleState) (js : List Job) (hd : s.device = .running) (hj : s.jobs = .port p e :: js) :
    Changes s (s.portStep p e) := by
  unfold State.portStep
  split
  · exact completePortJob p e js hd hj
  · exact requestReads _ _ _ ((reclaimHolding p _ hd).trans
      (completeIfEmpty p e js ((s.reclaimHolding_device ..).trans hd) ((s.reclaimHolding_jobs ..).trans hj)))

theorem portJobStep (h : execPortJobStep u s = .next t) : Changes s t := by
  cases h
  refine (upset u).trans ?_
  split
  · next hg =>
    have hd := State.running_of_reclaimGrant hg
    split
    · exact .refl
    · exact .refl
    · exact .refl
    · next p e js hj => exact (grantTo _).trans (portStep p e js hd hj)
  · exact .refl

theorem queueStep (q : QueueNo) (delete : Bool) (js : List Job) (hd : s.device = .running)
    (hj : s.jobs = (if delete then .delete q else .purge q) :: js) : Changes s (s.queueStep q delete) := by
  unfold State.queueStep
  split
  · next hm => exact single (.endWalk q delete js hd hj (List.head?_eq_none_iff.1 hm))
  · next m hm =>
    refine requestReads _ _ _ ((single (.walkHead q m delete js hd hj hm)).trans ?_)
    unfold State.endIfEmpty
    split
    · next hl =>
      exact single (.endWalk q delete js ((s.walkHead_device q m).trans hd) ((s.walkHead_jobs q m).trans hj)
        (by simpa using hl))
    · exact .refl

theorem queueWalkStep (h : execQueueWalkStep u s = .next t) : Changes s t := by
  cases h
  refine (upset u).trans ?_
  split
  · next hg =>
    have hd := State.running_of_reclaimGrant hg
    split
    · exact .refl
    · exact .refl
    · next q js hj => exact (grantTo _).trans (queueStep q false js hd hj)
    · next q js hj => exact (grantTo _).trans (queueStep q true js hd hj)
  · exact .refl

end Changes

/-! ### The data window -/

/-- An access that reaches a cell has passed the check of the HALTED part, and the cell is the selected
message's (R33, R35). -/
theorem State.windowCheck_eq_reaches {s : State} {p : Port} {offset : DataOffset} {t : WindowTarget}
    (h : s.windowCheck p offset = .reaches t) : s.device ≠ .halted ∧ t.cell ∈ s.messageCells t.message := by
  unfold windowCheck at h
  split at h
  · cases h
  · split at h
    · cases h
    · next hd =>
      refine ⟨hd, ?_⟩
      split at h
      · cases h
      · split at h
        · cases h
        · unfold windowMap at h
          split at h
          · cases h
          · split at h
            · cases h
            · split at h
              · cases h
              · split at h
                · cases h
                · split at h
                  · cases h
                  · next hc =>
                    cases h
                    exact List.mem_of_getElem? hc

namespace Changes

variable {s : State} (p : Port) (u : Upset)

theorem setCellWord (c : CellNo) (w : WordNo) (v : CellWord) : Changes s (s.setCellWord c w v) :=
  single (.store _ (s.setCellWord_wf c w v))

theorem flipBits (c : CellNo) (w : WordNo) (flips : Flips) : Changes s (s.flipBits c w flips) := by
  rw [State.flipBits_frame]
  exact single (.store _ (s.flipBits_wf c w flips))

theorem countCorrectable : Changes s s.countCorrectable :=
  single (.plain ⟨s.deviceLine, s.formatRetired, s.parityErrors, s.lastGranted, s.capture,
    raiseCount s.correctable, s.uncorrectable, s.overflow⟩)

theorem captureReport (r : CaptureRecord) : Changes s (s.captureReport r) := by
  unfold State.captureReport
  split
  · exact single (.plain ⟨s.deviceLine, s.formatRetired, s.parityErrors, s.lastGranted, s.capture,
      s.correctable, s.uncorrectable, raiseCount s.overflow⟩)
  · exact (single (.plain ⟨s.deviceLine, s.formatRetired, s.parityErrors, s.lastGranted, r, s.correctable,
      s.uncorrectable, s.overflow⟩)).trans (raiseToAdmins _ _ _ _ (by decide) (by decide))

theorem uncorrectableAccess (t : WindowTarget) (a : Access) (hd : s.device ≠ .halted)
    (hc : t.cell ∈ s.messageCells t.message) : Changes s (s.uncorrectableAccess p t a) := by
  have marked : Changes s (((s.markCell t.cell).damage t.message).setFlag p .data) :=
    (((single (.markCell t.message t.cell hd hc)).tail
      (.updateMessage t.message (fun r => { r with damaged := true }) fun _ => rfl)).trans
      (writeEntry (.record t.message))).trans (setFlag p _)
  unfold State.uncorrectableAccess
  exact (marked.tail (.plain ⟨_, _, _, _, _, _, _, _⟩)).trans (captureReport _)

theorem readReached (t : WindowTarget) (high : Bool) (hd : s.device ≠ .halted)
    (hc : t.cell ∈ s.messageCells t.message) : Changes s (s.readReached p t high) := by
  unfold State.readReached
  split
  · exact drive p _
  · exact ((setCellWord _ _ _).trans countCorrectable).trans (drive p _)
  · exact (uncorrectableAccess p t _ hd hc).trans (drive p _)

theorem writeReached (t : WindowTarget) (high : Bool) (data : Word) (strobes : Strobes) (hd : s.device ≠ .halted)
    (hc : t.cell ∈ s.messageCells t.message) : Changes s (s.writeReached p t high data strobes) := by
  unfold State.writeReached
  split
  · exact setCellWord _ _ _
  · exact (setCellWord _ _ _).trans countCorrectable
  · exact uncorrectableAccess p t _ hd hc

theorem windowRead (offset : DataOffset) (flips : Flips) : Changes s (s.windowRead p offset flips) := by
  unfold State.windowRead
  split
  · exact drive p _
  · exact (setFlag p _).trans (drive p _)
  · exact ((halt _ _).trans (setFlag p _)).trans (drive p _)
  · next t ht =>
    obtain ⟨hd, hc⟩ := State.windowCheck_eq_reaches ht
    refine (flipBits _ _ flips).trans (readReached p t _ ?_ ?_) <;> rw [State.flipBits_frame]
    · exact hd
    · exact hc

theorem windowWrite (offset : DataOffset) (data : Word) (strobes : Strobes) (flips : Flips) :
    Changes s (s.windowWrite p offset data strobes flips) := by
  unfold State.windowWrite
  split
  · exact .refl
  · exact setFlag p _
  · exact (halt _ _).trans (setFlag p _)
  · next t ht =>
    obtain ⟨hd, hc⟩ := State.windowCheck_eq_reaches ht
    refine (flipBits _ _ flips).trans (writeReached p t _ data strobes ?_ ?_) <;> rw [State.flipBits_frame]
    · exact hd
    · exact hc

/-! ### The register area -/

theorem commandWordWrite (data : Word) (strobes : Strobes) : Changes s (s.commandWordWrite p data strobes) := by
  unfold State.commandWordWrite
  split
  · exact .refl
  · unfold State.writeCommandWord
    split
    · exact setFlag p _
    · unfold State.commandToIdleSlot
      split
      · exact writeOutcome p _ _
      · exact writeOutcome p _ _
      · exact writeOutcome p _ _
      · next ha =>
        split
        · exact writeOutcome p _ _
        · exact single (.interface p _ rfl fun _ _ => .inl ha)

theorem selectWrite (data : Word) (strobes : Strobes) : Changes s (s.selectWrite p data strobes) := by
  unfold State.selectWrite
  split
  · exact .refl
  · exact interface p _ rfl (.inl rfl)

theorem controlWrite (data : Word) (strobes : Strobes) : Changes s (s.controlWrite p data strobes) := by
  unfold State.controlWrite
  split
  · exact .refl
  · exact interface p _ rfl (.inl rfl)

theorem acknowledgeWrite (strobes : Strobes) : Changes s (s.acknowledgeWrite p strobes) := by
  unfold State.acknowledgeWrite
  split
  · exact .refl
  · unfold State.acknowledge
    split
    · exact setFlag p _
    · next top rest h => exact single (.pop p top rest h)

theorem clearFlags : Changes s (s.clearFlags p) := interface p _ rfl (.inl rfl)

theorem releaseCapture : Changes s s.releaseCapture :=
  single (.plain ⟨s.deviceLine, s.formatRetired, s.parityErrors, s.lastGranted,
    { s.capture with valid := false }, s.correctable, s.uncorrectable, 0⟩)

theorem registerWrite (offset : RegisterOffset) (data : Word) (strobes : Strobes) :
    Changes s (s.registerWrite p offset data strobes) := by
  unfold State.registerWrite
  split
  · exact interface p _ rfl (.inl rfl)
  · split
    · exact commandWordWrite p data strobes
    · split
      · exact selectWrite p data strobes
      · split
        · exact controlWrite p data strobes
        · split
          · exact acknowledgeWrite p strobes
          · exact .refl

theorem registerRead (offset : RegisterOffset) : Changes s (s.registerRead p offset) := by
  refine Relation.ReflTransGen.trans ?_ (drive p _)
  unfold State.readEffect
  split
  · exact clearFlags p
  · split
    · exact single (.push p)
    · split
      · exact releaseCapture
      · exact .refl

theorem busAccess (offset : WindowOffset) (data : Word) (strobes : BusStrobes) :
    Changes s (s.busAccess p offset data strobes) := by
  unfold State.busAccess
  split
  · cases strobes with
    | read => exact windowRead p _ _
    | write active => exact windowWrite p _ _ _ _
  · cases strobes with
    | read => exact registerRead p _
    | write active => exact registerWrite p _ _ _

/-! ### Every command -/

/-- Every command is a chain of single changes. -/
theorem exec {i : Instr} {t : State} (h : Machine.exec i s = .next t) : Changes s t := by
  cases i with
  | powerOn lines => cases h; exact single (.powerOn lines)
  | deviceResetLineAsserted => exact deviceResetLineAsserted h
  | deviceResetLineReleased => exact deviceResetLineReleased h
  | portResetLineAsserted p => exact portResetLineAsserted p h
  | portResetLineReleased p => exact portResetLineReleased p h
  | allocate p u => cases h; exact allocate p u
  | put p u => cases h; exact put p u
  | take p u => cases h; exact take p u
  | release p u => cases h; exact release p u
  | renew p => cases h; exact renew p
  | giveBack p u => cases h; exact giveBack p u
  | query p => cases h; exact query p
  | claim p => cases h; exact claim p
  | unclaim p => cases h; exact unclaim p
  | format p => cases h; exact format p
  | defineQueue p => cases h; exact defineQueue p
  | modifyQueue p => cases h; exact modifyQueue p
  | purgeQueue p => cases h; exact purgeQueue p
  | deleteQueue p => cases h; exact deleteQueue p
  | setPort p => cases h; exact setPort p
  | fencePort p => cases h; exact fencePort p
  | unfencePort p => cases h; exact unfencePort p
  | resetPort p => cases h; exact resetPort p
  | registerWrite p offset data strobes => cases h; exact busAccess p offset data strobes
  | statusRead p => cases h; exact (clearFlags p).trans (drive p _)
  | windowSelectWrite p data strobes => cases h; exact selectWrite p data strobes
  | portControlWrite p data strobes => cases h; exact controlWrite p data strobes
  | noticeRead p => cases h; exact (single (.push p)).trans (drive p _)
  | noticeAcknowledge p data strobes => cases h; exact acknowledgeWrite p strobes
  | captureWord4Read p => cases h; exact releaseCapture.trans (drive p _)
  | windowRead p offset flips u => cases h; exact (upset u).trans (windowRead p offset flips)
  | windowWrite p offset data strobes flips u =>
    cases h; exact (upset u).trans (windowWrite p offset data strobes flips)
  | tickAdvance =>
    cases h
    split
    · next hd => exact single (.advanceTick hd)
    · exact .refl
  | deadlineDue =>
    cases h
    split
    · exact single .markDue
    · exact .refl
  | expiry u => cases h; exact expiry u
  | portJobStep u => exact portJobStep u h
  | queueWalkStep u => exact queueWalkStep u h
  | formatWalkCell flips u => exact formatWalkCell u flips h
  | walkCompletion => exact walkCompletion h
  | commandWordWrite p data strobes => cases h; exact commandWordWrite p data strobes

end Changes

end Sys2Proof.Machine
end

section
/-! Proofs/StepLaws.lean: what each effect can change, how a law of single changes becomes a law of a step,
and the laws that hardly any change touches. -/

namespace Sys2Proof.Machine

/-! ### What each effect can change -/

namespace State

variable (s : State)

theorem insertDeadline_frame (p : Port) (i : SlotNo) (g : BitVec 3) (d : Option (BitVec 32)) :
    s.insertDeadline p i g d = { s with timeouts := (s.insertDeadline p i g d).timeouts } := by
  unfold insertDeadline
  split <;> rfl

theorem portGone_frame (p : Port) (y : SettleState) :
    s.portGone p y =
      { s with
        ports := (s.portGone p y).ports
        queues := (s.portGone p y).queues
        notices := (s.portGone p y).notices
        interfaces := (s.portGone p y).interfaces } := by
  unfold portGone portResetEffects resetInterface emptyNotices clearClaims movePort
  rfl

theorem walkHead_frame (q : QueueNo) (m : CellNo) :
    s.walkHead q m =
      { s with
        queues := (s.walkHead q m).queues
        notices := (s.walkHead q m).notices
        freeList := (s.walkHead q m).freeList
        retired := (s.walkHead q m).retired
        parityErrors := (s.walkHead q m).parityErrors
        messages := (s.walkHead q m).messages } := by
  have discarded (t : State) : t.raiseDiscarded q = { t with queues := (t.raiseDiscarded q).queues } := rfl
  unfold walkHead
  rw [discarded, freeMessage_frame, unlink_frame]

/-- What RESET PORT leaves before its PORT EVENT is raised. -/
theorem portRestart_frame (p : Port) :
    ((s.portGone p .attached).appendPortJob p .attached).releaseReset p =
      { s with
        ports := (((s.portGone p .attached).appendPortJob p .attached).releaseReset p).ports
        queues := (s.portGone p .attached).queues
        notices := (s.portGone p .attached).notices
        jobs := ((s.portGone p .attached).appendPortJob p .attached).jobs
        interfaces := (((s.portGone p .attached).appendPortJob p .attached).releaseReset p).interfaces } := by
  have gone := s.portGone_frame p .attached
  generalize s.portGone p .attached = t at gone ⊢
  have appended := t.appendPortJob_frame p .attached
  generalize t.appendPortJob p .attached = v at appended ⊢
  rw [appended, gone]
  rfl

theorem portGoneWithJob_frame (p : Port) :
    (s.portGone p .attached).appendPortJob p .attached =
      { s with
        ports := (s.portGone p .attached).ports
        queues := (s.portGone p .attached).queues
        notices := (s.portGone p .attached).notices
        jobs := ((s.portGone p .attached).appendPortJob p .attached).jobs
        interfaces := (s.portGone p .attached).interfaces } := by
  have gone := s.portGone_frame p .attached
  generalize s.portGone p .attached = t at gone ⊢
  rw [appendPortJob_frame, gone]

end State

theorem putFresh_frame (p : Port) (i : SlotNo) (q : QueueNo) (o : Operands) (m : CellNo) (s : State) :
    putFresh p i q o m s =
      { s with
        messages := (putFresh p i q o m s).messages
        queues := (putFresh p i q o m s).queues
        notices := (putFresh p i q o m s).notices
        holdings := (putFresh p i q o m s).holdings } := by
  unfold putFresh
  rw [State.emptySlot_frame, State.link_frame, State.updateMessage_frame]

theorem putTaken_frame (p : Port) (i : SlotNo) (q : QueueNo) (o : Operands) (m : CellNo) (f : TakenFields)
    (s : State) :
    putTaken p i q o m f s =
      { s with
        messages := (putTaken p i q o m f s).messages
        queues := (putTaken p i q o m f s).queues
        notices := (putTaken p i q o m f s).notices
        holdings := (putTaken p i q o m f s).holdings
        timeouts := (putTaken p i q o m f s).timeouts } := by
  have lowered := s.lowerSource_frame f.source
  unfold putTaken
  generalize s.lowerSource f.source = t at lowered ⊢
  rw [State.emptySlot_frame, State.link_frame, State.updateMessage_frame, lowered]
  rfl

theorem takeEffect_frame (p : Port) (q : QueueNo) (i : SlotNo) (m : CellNo) (e : ListEnd) (s : State) :
    takeEffect p q i m e s =
      { s with
        queues := (takeEffect p q i m e s).queues
        holdings := (takeEffect p q i m e s).holdings
        ports := (takeEffect p q i m e s).ports
        timeouts := (takeEffect p q i m e s).timeouts
        notices := (takeEffect p q i m e s).notices } := by
  have unlinked := s.unlink_frame q e
  unfold takeEffect
  dsimp only
  generalize s.unlink q e = t at unlinked ⊢
  rw [State.insertDeadline_frame, unlinked]
  rfl

theorem releaseEffect_frame (p : Port) (i : SlotNo) (m : CellNo) (x : Option QueueNo) (s : State) :
    releaseEffect p i m x s =
      { s with
        freeList := (releaseEffect p i m x s).freeList
        retired := (releaseEffect p i m x s).retired
        parityErrors := (releaseEffect p i m x s).parityErrors
        messages := (releaseEffect p i m x s).messages
        holdings := (releaseEffect p i m x s).holdings
        queues := (releaseEffect p i m x s).queues
        timeouts := (releaseEffect p i m x s).timeouts } := by
  have removed (t : State) : t.removeTimeout p i = { t with timeouts := (t.removeTimeout p i).timeouts } := rfl
  unfold releaseEffect
  rw [State.dropHolding_frame, removed, State.lowerSource_frame]

theorem allocateEffect_frame (p : Port) (n : Nat) (i : SlotNo) (m : CellNo) (s : State) :
    allocateEffect p n i m s =
      { s with
        freeList := (allocateEffect p n i m s).freeList
        messages := (allocateEffect p n i m s).messages
        parityErrors := (allocateEffect p n i m s).parityErrors
        holdings := (allocateEffect p n i m s).holdings } := (rfl)

theorem deleteQueueEffect_frame (q : QueueNo) (s : State) :
    deleteQueueEffect q s =
      { s with
        queues := (deleteQueueEffect q s).queues
        holdings := (deleteQueueEffect q s).holdings
        timeouts := (deleteQueueEffect q s).timeouts
        jobs := (deleteQueueEffect q s).jobs
        notices := (deleteQueueEffect q s).notices } := by
  have appended (t : State) : t.appendJob (.delete q) = { t with jobs := (t.appendJob (.delete q)).jobs } := rfl
  unfold deleteQueueEffect
  dsimp only
  rw [appended, State.withdrawFrom_frame]
  rfl

/-! ## Laws that only one kind of change touches -/

theorem Change.pending_eq {s t : State} (h : Change s t) : t.pending = s.pending := by
  cases h with
  | raise => rw [State.raise_frame]
  | updateMessage => rw [State.updateMessage_frame]
  | putFresh => rw [putFresh_frame]
  | putTaken => rw [putTaken_frame]
  | take => rw [takeEffect_frame]
  | release => rw [releaseEffect_frame]
  | drop => rw [State.dropHolding_frame]
  | endHolding => rw [State.endHolding_frame]
  | modifyQueue => rw [modifyQueueEffect_frame]
  | deleteQueue => rw [deleteQueueEffect_frame]
  | fencePort => rw [State.setAside_frame]; rfl
  | resetPort => rw [State.portRestart_frame]; rfl
  | lineAsserted => rw [State.portGone_frame]; rfl
  | lineAssertedWithJob => rw [State.portGoneWithJob_frame]; rfl
  | walkHead => rw [State.walkHead_frame]
  | portJobDone => split <;> rfl
  | _ => rfl

theorem Change.store_eq_or {s t : State} (h : Change s t) :
    t.store = s.store ∨ (Memory.wf s.store = true → Memory.wf t.store = true) := by
  cases h with
  | store m hm => exact .inr hm
  | powerOn => exact .inr fun _ => rfl
  | raise => rw [State.raise_frame]; exact .inl rfl
  | updateMessage => rw [State.updateMessage_frame]; exact .inl rfl
  | putFresh => rw [putFresh_frame]; exact .inl rfl
  | putTaken => rw [putTaken_frame]; exact .inl rfl
  | take => rw [takeEffect_frame]; exact .inl rfl
  | release => rw [releaseEffect_frame]; exact .inl rfl
  | drop => rw [State.dropHolding_frame]; exact .inl rfl
  | endHolding => rw [State.endHolding_frame]; exact .inl rfl
  | modifyQueue => rw [modifyQueueEffect_frame]; exact .inl rfl
  | deleteQueue => rw [deleteQueueEffect_frame]; exact .inl rfl
  | fencePort => rw [State.setAside_frame]; exact .inl rfl
  | resetPort => rw [State.portRestart_frame]; exact .inl rfl
  | lineAssertedWithJob => rw [State.portGoneWithJob_frame]; exact .inl rfl
  | walkHead => rw [State.walkHead_frame]; exact .inl rfl
  | portJobDone => split <;> exact .inl rfl
  | lineAsserted => rw [State.portGone_frame]; exact .inl rfl
  | _ => exact .inl rfl

/-- Every command has a meaning, and no meaning is a fault or a refusal. -/
theorem exec_eq_next (i : Instr) (s : State) : ∃ t, exec i s = .next t := by
  cases i <;> exact ⟨_, rfl⟩

/-- Settles O2: no single change touches the queue of commands. -/
theorem everyCommandAnswersANextState : Obligations.EveryCommandAnswersANextState := by
  intro i s
  obtain ⟨t, ht⟩ := exec_eq_next i s
  exact ⟨t, ht, (Changes.exec ht).keep (P := fun t => t.pending = s.pending)
    (fun _ _ hc hp => hc.pending_eq.trans hp) rfl⟩

/-- A law that every single change keeps, and that does not speak of the queue of commands, is kept by a
step. -/
theorem step_keeps {P : State → Prop} (rest : ∀ s l, P s → P { s with pending := l })
    (law : ∀ s t, Change s t → P s → P t) {s t : State} (hs : P s) (h : step s = .next t) : P t := by
  unfold step at h
  split at h
  · cases h
    exact hs
  · next c l _ => exact (Changes.exec h).keep law (rest s l hs)

/-- Settles O5: a single change keeps the store as it is or writes it in its canonical form. -/
theorem stepKeepsTheStoreCanonical : Obligations.StepKeepsTheStoreCanonical := by
  intro s t hs h
  refine step_keeps (P := fun s => Memory.wf s.store = true) (fun _ _ => id) (fun s t hc hw => ?_) hs h
  rcases hc.store_eq_or with hsame | hkept
  · rwa [hsame]
  · exact hkept hw

/-- Settles O1: `step` is defined by the front of the queue. -/
theorem stepTakesTheFrontCommand : Obligations.StepTakesTheFrontCommand := by
  refine ⟨fun s c rest h => ?_, fun s h => ?_⟩ <;> simp only [step, h]

end Sys2Proof.Machine
end

section
/-! Proofs/Effects.lean: what the effects of the message commands write in the slots, the timeout list, the
queues, the message table and the notice units. -/

namespace Sys2Proof.Machine

namespace State

variable {s t : State} {p : Port} {i : SlotNo}

theorem slot_congr (h : t.holdings = s.holdings) (r : Port) (j : SlotNo) : t.slot r j = s.slot r j := by
  simp only [slot, h]

theorem queue_congr (h : t.queues = s.queues) (q : QueueNo) : t.queue q = s.queue q := by
  simp only [queue, h]

theorem noticeUnit_congr (h : t.notices = s.notices) (r : Port) : t.noticeUnit r = s.noticeUnit r := by
  simp only [noticeUnit, h]

theorem messageCells_congr (h : t.messages = s.messages) (m : CellNo) : t.messageCells m = s.messageCells m := by
  simp only [messageCells, message, h]

/-! ## One slot written -/

theorem slot_of_holdings {x : Slot} (h : t.holdings = (s.setSlot p i x).holdings) : t.slot p i = x := by
  rw [slot_congr h, setSlot_slot_same]

theorem otherSlotsKept_of_holdings {x : Slot} (h : t.holdings = (s.setSlot p i x).holdings) :
    s.otherSlotsKept t p i := fun r j hne => by
  rw [slot_congr h, setSlot_slot_other _ _ _ _ _ _ hne]

theorem heldCells_of_holdings {x : Slot} (h : t.holdings = (s.setSlot p i x).holdings) :
    t.heldCells p + (s.slot p i).holding.cellCount = s.heldCells p + x.holding.cellCount := by
  rw [heldCells_congr h p]
  exact s.setSlot_heldCells_same p i x

theorem slotEmptied_of_holdings (h : t.holdings = (s.emptySlot p i).holdings) : s.slotEmptied t p i :=
  ⟨slot_of_holdings h, otherSlotsKept_of_holdings h⟩

theorem heldCells_of_emptied (h : t.holdings = (s.emptySlot p i).holdings) :
    t.heldCells p + (s.slot p i).holding.cellCount = s.heldCells p := heldCells_of_holdings h

theorem emptySlot_holdings_congr {u : State} (h : u.holdings = s.holdings) (p : Port) (i : SlotNo) :
    (u.emptySlot p i).holdings = (s.emptySlot p i).holdings := by
  simp only [emptySlot, setSlot, slot, h]

theorem dropHolding_holdings (s : State) (p : Port) (i : SlotNo) (m : CellNo) :
    (s.dropHolding p i m).holdings = (s.emptySlot p i).holdings := by
  simp [dropHolding]

theorem endHolding_holdings (s : State) (p : Port) (i : SlotNo) (m : CellNo) (q : QueueNo) :
    (s.endHolding p i m q).holdings = (s.emptySlot p i).holdings := by
  rw [endHolding, returnPath_holdings]
  exact emptySlot_holdings_congr rfl p i

theorem endHolding_timeouts (s : State) (p : Port) (i : SlotNo) (m : CellNo) (q : QueueNo) :
    (s.endHolding p i m q).timeouts = s.timeoutsWithout p i := by
  rw [endHolding, returnPath_timeouts]
  rfl

theorem insertDeadline_none (s : State) (p : Port) (i : SlotNo) (g : BitVec 3) :
    s.insertDeadline p i g none = s := (rfl)

theorem insertDeadline_some (s : State) (p : Port) (i : SlotNo) (g : BitVec 3) (d : BitVec 32) :
    (s.insertDeadline p i g (some d)).timeouts =
      insertEntry s.tick { port := p, slot := i, gen := g, deadline := d, due := false } s.timeouts := (rfl)

end State

/-- What the checks of ALLOCATE let pass (R78). -/
theorem allocateCheck_eq_ok {s : State} {p : Port} {n : Nat} {i : SlotNo} {m : CellNo}
    (h : allocateCheck s p n = .ok (i, m)) :
    1 ≤ n ∧ n ≤ 16 ∧ (s.slot p i).holding = .empty ∧ s.heldCells p + n ≤ (s.port p).quota ∧
      n ≤ s.freeList.length ∧ s.freeList.head? = some m := by
  unfold allocateCheck at h
  split at h
  · cases h
  · next hn =>
    split at h
    · cases h
    · next j hj =>
      split at h
      · cases h
      · next hq =>
        split at h
        · cases h
        · next hc =>
          split at h
          · cases h
          · next k hk =>
            cases h
            rw [State.freeCount] at hc
            exact ⟨by omega, by omega, ((s.freeSlot_eq_some p i).1 hj).1, by omega, by omega, hk⟩

section Slots

variable (s : State) (p : Port) (i : SlotNo) (q : QueueNo) (o : Operands) (m : CellNo) (f : TakenFields) (e : ListEnd)

theorem putFresh_holdings : (putFresh p i q o m s).holdings = (s.emptySlot p i).holdings :=
  State.emptySlot_holdings_congr (by simp) p i

theorem putTaken_holdings : (putTaken p i q o m f s).holdings = (s.emptySlot p i).holdings :=
  State.emptySlot_holdings_congr (by simp) p i

theorem putTaken_timeouts : (putTaken p i q o m f s).timeouts = s.timeoutsWithout p i := by
  simp [putTaken, State.removeTimeout, State.timeoutsWithout]

theorem releaseEffect_holdings (x : Option QueueNo) :
    (releaseEffect p i m x s).holdings = (s.emptySlot p i).holdings := by
  rw [releaseEffect, State.dropHolding_holdings]
  exact State.emptySlot_holdings_congr (by simp) p i

theorem releaseEffect_timeouts (x : Option QueueNo) :
    (releaseEffect p i m x s).timeouts = s.timeoutsWithout p i := by
  simp [releaseEffect, State.removeTimeout, State.timeoutsWithout]

theorem takeEffect_holdings :
    (takeEffect p q i m e s).holdings =
      (s.setSlot p i
        { s.slot p i with holding := .taken m (s.messageCells m).length (takenFields s p q) }).holdings := by
  unfold takeEffect
  rw [State.insertDeadline_frame, State.unlink_frame]
  rfl

theorem takeEffect_timeouts :
    (takeEffect p q i m e s).timeouts =
      match (takenFields s p q).deadline with
      | none => s.timeouts
      | some d => insertEntry s.tick
          { port := p, slot := i, gen := (s.slot p i).gen, deadline := d, due := false } s.timeouts := by
  unfold takeEffect
  dsimp only
  cases (takenFields s p q).deadline with
  | none => simp [State.insertDeadline_none, State.advanceOrdinal, State.countTake]
  | some d => simp [State.insertDeadline_some, State.advanceOrdinal, State.countTake]

end Slots

/-! ## The queues -/

namespace State

theorem link_queue (s : State) (q x : QueueNo) (e : ListEnd) (m : CellNo) :
    (s.link q e m).queue x =
      if x = q then
        { s.queue q with list := s.linked q e m, lowArmed := s.armedTo q ((s.queue q).queued + 1) }
      else s.queue x := by
  split
  · next h => rw [h, link_queue_same]
  · next h => exact s.link_queue_other q x e m h

/-- The list a queue has after a message is unlinked from an end (R47). -/
def unlinked (s : State) (q : QueueNo) : ListEnd → List CellNo
  | .head => (s.queue q).list.tail
  | .tail => (s.queue q).list.dropLast

theorem unlink_eq (s : State) (q : QueueNo) (e : ListEnd) : s.unlink q e = s.changeList q (s.unlinked q e) := by
  cases e <;> rfl

theorem unlink_queue (s : State) (q x : QueueNo) (e : ListEnd) :
    (s.unlink q e).queue x =
      if x = q then
        { s.queue q with list := s.unlinked q e, lowArmed := s.armedTo q (s.unlinked q e).length }
      else s.queue x := by
  rw [unlink_eq]
  split
  · next h => rw [h, changeList_queue_same]; rfl
  · next h => exact s.changeList_queue_other q x _ h

theorem unlink_noticeUnit (s : State) (q : QueueNo) (e : ListEnd) (r : Port) :
    (s.unlink q e).noticeUnit r = s.afterCrossings q (s.crossingsTo q (s.unlinked q e).length) r := by
  rw [unlink_eq, changeList_noticeUnit]

theorem countTake_queue (s : State) (q x : QueueNo) :
    (s.countTake q).queue x =
      if x = q then
        { s.queue q with outstanding := (s.queue q).outstanding + 1, delivered := (s.queue q).delivered + 1 }
      else s.queue x := by
  split
  · next h => rw [h]; exact s.setQueue_queue_same q _
  · next h => exact s.setQueue_queue_other q x _ h

end State

section Queues

variable (s : State) (p : Port) (i : SlotNo) (q x : QueueNo) (o : Operands) (m : CellNo) (f : TakenFields) (e : ListEnd)

theorem putFresh_queue :
    (putFresh p i q o m s).queue x =
      if x = q then
        { s.queue q with list := s.linked q o.listEnd m, lowArmed := s.armedTo q ((s.queue q).queued + 1) }
      else s.queue x := by
  have hq : ∀ y, (s.updateMessage m (fun r => { r with length := o.length, tag := o.tag })).queue y = s.queue y :=
    fun y => s.updateMessage_queue m _ y
  rw [putFresh, State.emptySlot_queue, State.link_queue]
  simp only [State.linked, State.armedTo, hq]

theorem putFresh_noticeUnit (r : Port) :
    (putFresh p i q o m s).noticeUnit r = s.afterCrossings q (s.crossingsTo q ((s.queue q).queued + 1)) r := by
  rw [putFresh, State.emptySlot_noticeUnit, State.link_noticeUnit]
  simp [State.afterCrossings, State.crossingsTo]

/-- The source's outstanding count falls before the message is linked, which changes nothing that the link
reads. -/
theorem putTaken_queue :
    (putTaken p i q o m f s).queue x =
      if x = q then
        { s.lowered f.source q with
          list := s.linked q o.listEnd m, lowArmed := s.armedTo q ((s.queue q).queued + 1) }
      else s.lowered f.source x := by
  have lists : ∀ y, (s.lowered f.source y).list = (s.queue y).list ∧ (s.lowered f.source y).state = (s.queue y).state ∧
      (s.lowered f.source y).settings = (s.queue y).settings ∧ (s.lowered f.source y).lowArmed = (s.queue y).lowArmed := by
    intro y
    unfold State.lowered
    split <;> exact ⟨rfl, rfl, rfl, rfl⟩
  obtain ⟨hl, hs, hc, ha⟩ := lists q
  have hq : ∀ y, (((s.lowerSource f.source).removeTimeout p i).updateMessage m
      (fun r => { r with redelivery := 0, spilled := false })).queue y = s.lowered f.source y := fun y => by
    rw [State.updateMessage_queue, State.removeTimeout_queue, State.lowerSource_queue]
  rw [putTaken, State.emptySlot_queue, State.link_queue]
  generalize (((s.lowerSource f.source).removeTimeout p i).updateMessage m
      (fun r => { r with redelivery := 0, spilled := false })) = t at hq
  obtain ⟨-, harmed⟩ := State.crossingsTo_congr (s := s) (t := t) (q := q) ((t.queue q).queued + 1)
    (by rw [hq, hs]) (by rw [hq, hl]) (by rw [hq, hc]) (by rw [hq, ha])
  have hqueued : (t.queue q).queued = (s.queue q).queued := by rw [hq]; exact congrArg List.length hl
  have hlinked : t.linked q o.listEnd m = s.linked q o.listEnd m := by simp only [State.linked, hq, hl]
  rw [harmed, hqueued, hlinked, hq, hq]

theorem putTaken_noticeUnit (r : Port) :
    (putTaken p i q o m f s).noticeUnit r = s.afterCrossings q (s.crossingsTo q ((s.queue q).queued + 1)) r := by
  have hq : ∀ y, (((s.lowerSource f.source).removeTimeout p i).updateMessage m
      (fun r => { r with redelivery := 0, spilled := false })).queue y = s.lowered f.source y := fun y => by
    rw [State.updateMessage_queue, State.removeTimeout_queue, State.lowerSource_queue]
  have hsame : (s.lowered f.source q).list = (s.queue q).list ∧ (s.lowered f.source q).state = (s.queue q).state ∧
      (s.lowered f.source q).settings = (s.queue q).settings ∧
      (s.lowered f.source q).lowArmed = (s.queue q).lowArmed := by
    unfold State.lowered
    split <;> exact ⟨rfl, rfl, rfl, rfl⟩
  obtain ⟨hl, hs, hc, ha⟩ := hsame
  have hports : (((s.lowerSource f.source).removeTimeout p i).updateMessage m
      (fun r => { r with redelivery := 0, spilled := false })).ports = s.ports := by simp
  have hnotices : (((s.lowerSource f.source).removeTimeout p i).updateMessage m
      (fun r => { r with redelivery := 0, spilled := false })).notices = s.notices := by simp
  rw [putTaken, State.emptySlot_noticeUnit, State.link_noticeUnit]
  generalize (((s.lowerSource f.source).removeTimeout p i).updateMessage m
      (fun r => { r with redelivery := 0, spilled := false })) = t at hq hports hnotices
  obtain ⟨hcross, -⟩ := State.crossingsTo_congr (s := s) (t := t) (q := q) ((t.queue q).queued + 1)
    (by rw [hq, hs]) (by rw [hq, hl]) (by rw [hq, hc]) (by rw [hq, ha])
  have hqueued : (t.queue q).queued = (s.queue q).queued := by rw [hq]; exact congrArg List.length hl
  rw [hcross, hqueued, State.afterCrossings_congr _ r (by rw [hq, hc]) hports hnotices]

theorem takeEffect_queue :
    (takeEffect p q i m e s).queue x =
      if x = q then
        { s.queue q with
          list := s.unlinked q e
          outstanding := (s.queue q).outstanding + 1
          delivered := (s.queue q).delivered + 1
          lowArmed := s.armedTo q (s.unlinked q e).length }
      else s.queue x := by
  have counted : (takeEffect p q i m e s).queue x = ((s.unlink q e).countTake q).queue x := by
    unfold takeEffect
    rw [State.insertDeadline_frame]
    rfl
  rw [counted, State.countTake_queue, State.unlink_queue, State.unlink_queue, if_pos rfl]
  split <;> rfl

theorem takeEffect_noticeUnit (r : Port) :
    (takeEffect p q i m e s).noticeUnit r = s.afterCrossings q (s.crossingsTo q (s.unlinked q e).length) r := by
  have kept : (takeEffect p q i m e s).noticeUnit r = (s.unlink q e).noticeUnit r := by
    unfold takeEffect
    rw [State.insertDeadline_frame]
    rfl
  rw [kept, State.unlink_noticeUnit]

theorem releaseEffect_queue (source : Option QueueNo) :
    (releaseEffect p i m source s).queue x = s.lowered source x := by
  rw [releaseEffect, State.dropHolding_queue, State.removeTimeout_queue, State.lowerSource_queue]

end Queues

/-- What ports receive of a change of a queue's count is read from the change's own queue. -/
theorem State.walkHead_noticeUnit (s : State) (q : QueueNo) (m : CellNo) (r : Port) :
    (s.walkHead q m).noticeUnit r = s.afterCrossings q (s.crossingsTo q (s.queue q).list.tail.length) r := by
  rw [walkHead, raiseDiscarded, setQueue_noticeUnit, freeMessage_noticeUnit, unlink_noticeUnit]
  rfl

theorem State.walkHead_queue (s : State) (q x : QueueNo) (m : CellNo) :
    (s.walkHead q m).queue x =
      if x = q then
        { s.queue q with
          list := (s.queue q).list.tail
          discarded := (s.queue q).discarded + 1
          lowArmed := s.armedTo q (s.queue q).list.tail.length }
      else s.queue x := by
  rw [walkHead, raiseDiscarded]
  split
  · next h =>
    rw [h, setQueue_queue_same, freeMessage_queue, unlink_queue, if_pos rfl]
    rfl
  · next h => rw [setQueue_queue_other _ _ _ _ h, freeMessage_queue, unlink_queue, if_neg h]

end Sys2Proof.Machine
end

section
/-! Proofs/TimeoutLaw.lean: every single change keeps the laws of the timeout list (R102 to R104). -/

namespace Sys2Proof.Machine

/-! ## Entries and their slots -/

theorem Holding.taken?_eq_some {h : Holding} {f : TakenFields} :
    h.taken? = some f ↔ ∃ m c, h = .taken m c f := by
  cases h <;> simp [taken?]

/-- No deadline runs for slot `i` of port `p`. -/
def State.noDeadline (s : State) (p : Port) (i : SlotNo) : Prop :=
  ∀ f, (s.slot p i).holding.taken? = some f → f.deadline = none

theorem State.mem_timeoutsWithout {s : State} {p : Port} {i : SlotNo} {e : TimeoutEntry} :
    e ∈ s.timeoutsWithout p i ↔ e ∈ s.timeouts ∧ (e.port ≠ p ∨ e.slot ≠ i) := by
  simp only [timeoutsWithout, List.mem_filter, Bool.not_eq_true', Bool.and_eq_false_iff, beq_eq_false_iff_ne]

/-- An inserted entry stands among the entries there were, in some order. -/
theorem perm_insertEntry (tick : BitVec 32) (e : TimeoutEntry) (l : List TimeoutEntry) :
    (insertEntry tick e l).Perm (e :: l) := by
  obtain ⟨before, after, hold, hnew, -⟩ := insertEntry_insertedAtPlace tick e l
  rw [hnew, hold]
  exact List.perm_middle

/-- An entry not yet due is inserted so that the order of R104 stands. -/
theorem pairwise_insertEntry (tick : BitVec 32) (e : TimeoutEntry) (l : List TimeoutEntry) (he : e.due = false)
    (hl : l.Pairwise (TimeoutEntry.mayPrecede tick)) :
    (insertEntry tick e l).Pairwise (TimeoutEntry.mayPrecede tick) := by
  obtain ⟨before, after, hold, hnew, hbefore, hafter⟩ := insertEntry_insertedAtPlace tick e l
  rw [hold, List.pairwise_append] at hl
  obtain ⟨hb, ha, hcross⟩ := hl
  have first : ∀ y ∈ after, y.due = false ∧ remaining tick e.deadline ≤ remaining tick y.deadline := by
    cases after with
    | nil => simp
    | cons a rest =>
      obtain ⟨hadue, hlt⟩ := hafter a rfl
      intro y hy
      rcases List.mem_cons.1 hy with rfl | hy
      · exact ⟨hadue, hlt.le⟩
      · rcases (List.pairwise_cons.1 ha).1 y hy with hdue | ⟨hydue, hle⟩
        · simp [hadue] at hdue
        · exact ⟨hydue, hlt.le.trans hle⟩
  rw [hnew, List.pairwise_append]
  refine ⟨hb, List.pairwise_cons.2 ⟨fun y hy => .inr (first y hy), ha⟩, fun x hx y hy => ?_⟩
  rcases List.mem_cons.1 hy with rfl | hy
  · exact (hbefore x hx).imp id fun hle => ⟨he, hle⟩
  · exact hcross x hx y hy

namespace State

variable {s t : State} {p : Port} {i : SlotNo}

namespace TimeoutLaw

theorem congr (h : s.TimeoutLaw) (hh : t.holdings = s.holdings) (hl : t.timeouts = s.timeouts)
    (hk : t.tick = s.tick) : t.TimeoutLaw := by
  have hslot := slot_congr hh
  obtain ⟨held, listed, once, live, ordered, ahead⟩ := h
  refine ⟨?_, ?_, ?_, ?_, ?_, ?_⟩ <;> simpa only [hslot, hl, hk]

/-- A part that holds nothing and has no entry. -/
theorem of_cleared (hh : ∀ r j, (t.slot r j).holding = .empty) (hl : t.timeouts = []) : t.TimeoutLaw := by
  refine ⟨?_, ?_, ?_, ?_, ?_, ?_⟩ <;> simp [hh, hl, Holding.taken?]

/-- A slot without a deadline has no entry. -/
theorem timeoutsWithout_eq (h : s.TimeoutLaw) (hn : s.noDeadline p i) : s.timeoutsWithout p i = s.timeouts := by
  refine List.filter_eq_self.2 fun e he => ?_
  obtain ⟨f, hf, -, hd⟩ := h.held e he
  rw [Bool.not_eq_true', Bool.and_eq_false_iff, beq_eq_false_iff_ne, beq_eq_false_iff_ne, ← not_and_or]
  rintro ⟨rfl, rfl⟩
  rw [hn f hf] at hd
  cases hd

/-- A slot's deadline is gone, and its entry with it. -/
theorem ended (h : s.TimeoutLaw) (ho : s.otherSlotsKept t p i) (hn : t.noDeadline p i)
    (hl : t.timeouts = s.timeoutsWithout p i) (hk : t.tick = s.tick) : t.TimeoutLaw := by
  have elsewhere {r j f d} (hf : (t.slot r j).holding.taken? = some f) (hd : f.deadline = some d) :
      r ≠ p ∨ j ≠ i := by
    rw [← not_and_or]
    rintro ⟨rfl, rfl⟩
    rw [hn f hf] at hd
    cases hd
  refine ⟨fun e he => ?_, fun r j f d hf hd => ?_, ?_, fun r j f d hf hd => ?_, ?_, fun e he hdue => ?_⟩
  · rw [hl, mem_timeoutsWithout] at he
    rw [ho _ _ he.2]
    exact h.held e he.1
  · have hne := elsewhere hf hd
    rw [ho _ _ hne] at hf
    obtain ⟨e, he, rfl, rfl⟩ := h.listed r j f d hf hd
    exact ⟨e, by rw [hl, mem_timeoutsWithout]; exact ⟨he, hne⟩, rfl, rfl⟩
  · rw [hl]
    exact h.once.filter _
  · rw [ho _ _ (elsewhere hf hd)] at hf
    exact h.live r j f d hf hd
  · rw [hl, hk]
    exact h.ordered.filter _
  · rw [hl, mem_timeoutsWithout] at he
    rw [hk]
    exact h.ahead e he.1 hdue

/-- A slot that never had a deadline changes to one without. -/
theorem neverRan (h : s.TimeoutLaw) (ho : s.otherSlotsKept t p i) (hs : s.noDeadline p i) (hn : t.noDeadline p i)
    (hl : t.timeouts = s.timeouts) (hk : t.tick = s.tick) : t.TimeoutLaw :=
  h.ended ho hn (hl.trans (h.timeoutsWithout_eq hs).symm) hk

/-- A deadline set from the present, with its entry (R85, R91). -/
theorem deadlineSet (h : s.TimeoutLaw) (ho : s.otherSlotsKept t p i) {f : TakenFields} {d : BitVec 32}
    (hf : (t.slot p i).holding.taken? = some f) (hfd : f.deadline = some d) (hs : f.source ≠ none)
    (ht : f.holdTime ≠ 0) (hd : d = s.tick + f.holdTime.setWidth 32) (hk : t.tick = s.tick)
    (hl : t.timeouts = insertEntry s.tick
      { port := p, slot := i, gen := (t.slot p i).gen, deadline := d, due := false } (s.timeoutsWithout p i)) :
    t.TimeoutLaw := by
  have hperm := perm_insertEntry s.tick
    { port := p, slot := i, gen := (t.slot p i).gen, deadline := d, due := false } (s.timeoutsWithout p i)
  rw [← hl] at hperm
  have hmem {e} : e ∈ t.timeouts ↔ e = { port := p, slot := i, gen := (t.slot p i).gen, deadline := d, due := false } ∨
      e ∈ s.timeouts ∧ (e.port ≠ p ∨ e.slot ≠ i) := by
    rw [hperm.mem_iff, List.mem_cons, mem_timeoutsWithout]
  have hrem : 1 ≤ remaining s.tick d ∧ remaining s.tick d ≤ 65535 := by
    have hlt := f.holdTime.isLt
    have hpos : 0 < f.holdTime.toNat := by
      rw [Nat.pos_iff_ne_zero]
      exact fun h0 => ht (BitVec.eq_of_toNat_eq h0)
    have : remaining s.tick d = f.holdTime.toNat := by
      rw [remaining, hd, add_sub_cancel_left, BitVec.toNat_setWidth]
      omega
    omega
  refine ⟨fun e he => ?_, fun r j g d' hg hgd => ?_, ?_, fun r j g d' hg hgd => ?_, ?_, fun e he hdue => ?_⟩
  · rcases hmem.1 he with rfl | ⟨he, hne⟩
    · exact ⟨f, hf, rfl, hfd⟩
    · rw [ho _ _ hne]
      exact h.held e he
  · by_cases hrj : r = p ∧ j = i
    · obtain ⟨rfl, rfl⟩ := hrj
      exact ⟨_, hmem.2 (.inl rfl), rfl, rfl⟩
    · have hne := not_and_or.1 hrj
      rw [ho _ _ hne] at hg
      obtain ⟨e, he, rfl, rfl⟩ := h.listed r j g d' hg hgd
      exact ⟨e, hmem.2 (.inr ⟨he, hne⟩), rfl, rfl⟩
  · rw [hperm.pairwise_iff fun hab hba => hab ⟨hba.1.symm, hba.2.symm⟩, List.pairwise_cons]
    refine ⟨fun e he => ?_, h.once.filter _⟩
    rintro ⟨hp, hi⟩
    exact (mem_timeoutsWithout.1 he).2.elim (fun hne => hne hp.symm) (fun hne => hne hi.symm)
  · by_cases hrj : r = p ∧ j = i
    · obtain ⟨rfl, rfl⟩ := hrj
      cases hf.symm.trans hg
      exact ⟨hs, ht⟩
    · rw [ho _ _ (not_and_or.1 hrj)] at hg
      exact h.live r j g d' hg hgd
  · rw [hk, hl]
    exact pairwise_insertEntry _ _ _ rfl (h.ordered.filter _)
  · rw [hk]
    rcases hmem.1 he with rfl | ⟨he, -⟩
    · exact hrem
    · exact h.ahead e he hdue

/-- The marking of the due entries at a tick counter up to which no entry not yet due has run out (R101,
R105). -/
theorem marked (h : s.TimeoutLaw) (tick : BitVec 32)
    (hle : ∀ e ∈ s.timeouts, e.due = false → remaining tick e.deadline ≤ remaining s.tick e.deadline)
    (hmono : ∀ a ∈ s.timeouts, ∀ b ∈ s.timeouts, a.due = false → b.due = false →
      remaining s.tick a.deadline ≤ remaining s.tick b.deadline →
      remaining tick a.deadline ≤ remaining tick b.deadline) :
    ({ s with tick := tick } : State).markDue.TimeoutLaw := by
  obtain ⟨held, listed, once, live, ordered, ahead⟩ := h
  refine ⟨fun e he => ?_, fun r j f d hf hd => ?_, ?_, live, ?_, fun e he hdue => ?_⟩
  · obtain ⟨x, hx, rfl⟩ := List.mem_map.1 he
    split <;> exact held x hx
  · obtain ⟨e, he, hp, hi⟩ := listed r j f d hf hd
    refine ⟨_, List.mem_map.2 ⟨e, he, rfl⟩, ?_⟩
    split <;> exact ⟨hp, hi⟩
  · refine List.pairwise_map.2 (once.imp fun {a b} hab => ?_)
    split <;> split <;> exact hab
  · refine List.pairwise_map.2 (ordered.imp_of_mem fun {a b} ha hb hab => ?_)
    rcases hab with hdue | ⟨hbdue, hab⟩
    · left
      split
      · rfl
      · exact hdue
    · cases hadue : a.due with
      | true =>
        left
        split
        · rfl
        · exact hadue
      | false =>
        have hlt := hmono a ha b hb hadue hbdue hab
        by_cases h0 : remaining tick a.deadline = 0
        · left
          rw [if_pos h0]
        · right
          rw [if_neg h0, if_neg (by show ¬ remaining tick b.deadline = 0; omega)]
          exact ⟨hbdue, hlt⟩
  · obtain ⟨x, hx, rfl⟩ := List.mem_map.1 he
    split at hdue
    · cases hdue
    · next hne =>
      rw [if_neg hne]
      exact ⟨Nat.pos_of_ne_zero hne, (hle x hx hdue).trans (ahead x hx hdue).2⟩

end TimeoutLaw

/-- The tick counter's advance shortens a remaining time that has not run out by one (R101). -/
theorem remaining_succ {tick d : BitVec 32} (h : 1 ≤ remaining tick d) :
    remaining (tick + 1) d + 1 = remaining tick d := by
  unfold remaining at *
  bv_omega

theorem TimeoutLaw.advanced (h : s.TimeoutLaw) : s.advanceTick.TimeoutLaw := by
  have positive {e} (he : e ∈ s.timeouts) (hdue : e.due = false) := remaining_succ (h.ahead e he hdue).1
  refine h.marked (s.tick + 1) (fun e he hdue => ?_) (fun a ha b hb hadue hbdue hab => ?_)
  · have := positive he hdue
    omega
  · have := positive ha hadue
    have := positive hb hbdue
    omega

/-! ### The orphans of a deleted queue -/

theorem orphan_slot (s : State) (q : QueueNo) (r : Port) (j : SlotNo) :
    (s.orphan q).slot r j = { s.slot r j with holding := (s.slot r j).holding.orphaned q } := by
  simp [orphan, slot, getElem_mapTable]

theorem deleteQueueEffect_slot (s : State) (q : QueueNo) (r : Port) (j : SlotNo) :
    (deleteQueueEffect q s).slot r j = { s.slot r j with holding := (s.slot r j).holding.orphaned q } := by
  rw [← orphan_slot]
  refine slot_congr ?_ r j
  simp [deleteQueueEffect, appendJob]

theorem deleteQueueEffect_timeouts (s : State) (q : QueueNo) :
    (deleteQueueEffect q s).timeouts = s.timeouts.filter (fun e => !(s.slot e.port e.slot).fromQueue q) := by
  simp [deleteQueueEffect, appendJob, orphan]

end State

/-- An orphaned holding runs no deadline; every other TAKEN holding keeps its fields (R29, R156). -/
theorem Holding.taken?_orphaned {q : QueueNo} {h : Holding} {g : TakenFields} (hg : (h.orphaned q).taken? = some g) :
    (h.source? = some q ∧ g.deadline = none) ∨ (h.source? ≠ some q ∧ h.taken? = some g) := by
  cases h with
  | empty => cases hg
  | fresh => cases hg
  | taken m c f =>
    by_cases hf : f.source = some q
    · left
      simp only [orphaned, hf, if_true, taken?, Option.some.injEq] at hg
      exact ⟨hf, hg ▸ rfl⟩
    · right
      simp only [orphaned, hf, if_false] at hg
      exact ⟨hf, hg⟩

theorem Holding.orphaned_of_source?_ne {q : QueueNo} {h : Holding} (hs : h.source? ≠ some q) : h.orphaned q = h := by
  cases h with
  | empty => rfl
  | fresh => rfl
  | taken m c f => exact if_neg hs

namespace State

variable {s t : State} {p : Port} {i : SlotNo}

theorem TimeoutLaw.orphaned (h : s.TimeoutLaw) (q : QueueNo) : (deleteQueueEffect q s).TimeoutLaw := by
  have mem {e} : e ∈ (deleteQueueEffect q s).timeouts ↔
      e ∈ s.timeouts ∧ (s.slot e.port e.slot).holding.source? ≠ some q := by
    simp [deleteQueueEffect_timeouts, Slot.fromQueue]
  have before {r j f d} (hf : ((deleteQueueEffect q s).slot r j).holding.taken? = some f) (hd : f.deadline = some d) :
      (s.slot r j).holding.source? ≠ some q ∧ (s.slot r j).holding.taken? = some f := by
    rw [deleteQueueEffect_slot] at hf
    refine (Holding.taken?_orphaned hf).resolve_left fun hnone => ?_
    rw [hnone.2] at hd
    cases hd
  have htick : (deleteQueueEffect q s).tick = s.tick := by rw [deleteQueueEffect_frame]
  refine ⟨fun e he => ?_, fun r j f d hf hd => ?_, ?_, fun r j f d hf hd => ?_, ?_, fun e he hdue => ?_⟩
  · obtain ⟨he, hs⟩ := mem.1 he
    rw [deleteQueueEffect_slot, Holding.orphaned_of_source?_ne hs]
    exact h.held e he
  · obtain ⟨hs, hf⟩ := before hf hd
    obtain ⟨e, he, rfl, rfl⟩ := h.listed r j f d hf hd
    exact ⟨e, mem.2 ⟨he, hs⟩, rfl, rfl⟩
  · rw [deleteQueueEffect_timeouts]
    exact h.once.filter _
  · exact h.live r j f d (before hf hd).2 hd
  · rw [deleteQueueEffect_timeouts, htick]
    exact h.ordered.filter _
  · rw [htick]
    exact h.ahead e (mem.1 he).1 hdue

/-! ### Slots without a deadline -/

theorem noDeadline_of_empty (h : (s.slot p i).holding = .empty) : s.noDeadline p i := fun f hf => by
  rw [h] at hf
  cases hf

theorem noDeadline_of_fresh {m : CellNo} {c : Nat} (h : (s.slot p i).holding = .fresh m c) : s.noDeadline p i :=
  fun f hf => by
    rw [h] at hf
    cases hf

theorem noDeadline_of_emptied (h : t.holdings = (s.emptySlot p i).holdings) : t.noDeadline p i :=
  noDeadline_of_empty (by rw [(slotEmptied_of_holdings h).1])

/-- A holding without a source runs no deadline (R29). -/
theorem TimeoutLaw.noDeadline_of_source (h : s.TimeoutLaw) (hs : (s.slot p i).holding.source? = none) :
    s.noDeadline p i := fun f hf => by
  rw [Option.eq_none_iff_forall_ne_some]
  intro d hd
  refine (h.live p i f d hf hd).1 ?_
  obtain ⟨m, c, heq⟩ := Holding.taken?_eq_some.1 hf
  rwa [heq] at hs

/-- An emptied slot whose entry is removed. -/
theorem TimeoutLaw.emptied (h : s.TimeoutLaw) (hh : t.holdings = (s.emptySlot p i).holdings)
    (hl : t.timeouts = s.timeoutsWithout p i) (hk : t.tick = s.tick) : t.TimeoutLaw :=
  h.ended (slotEmptied_of_holdings hh).2 (noDeadline_of_emptied hh) hl hk

/-- An emptied slot that had no entry. -/
theorem TimeoutLaw.emptiedQuietly (h : s.TimeoutLaw) (hn : s.noDeadline p i)
    (hh : t.holdings = (s.emptySlot p i).holdings) (hl : t.timeouts = s.timeouts) (hk : t.tick = s.tick) :
    t.TimeoutLaw :=
  h.neverRan (slotEmptied_of_holdings hh).2 hn (noDeadline_of_emptied hh) hl hk

/-- The slot TAKE fills runs the queue's hold time, if it has one (R85). -/
theorem TimeoutLaw.taken (h : s.TimeoutLaw) (q : QueueNo) (m : CellNo) (e : ListEnd)
    (hi : (s.slot p i).holding = .empty) : (takeEffect p q i m e s).TimeoutLaw := by
  have hslot := slot_of_holdings (takeEffect_holdings s p i q m e)
  have hothers := otherSlotsKept_of_holdings (takeEffect_holdings s p i q m e)
  have hlist := takeEffect_timeouts s p i q m e
  have htick : (takeEffect p q i m e s).tick = s.tick := by rw [takeEffect_frame]
  have hquiet := noDeadline_of_empty hi
  have htaken : ((takeEffect p q i m e s).slot p i).holding.taken? = some (takenFields s p q) := by rw [hslot]; rfl
  by_cases ht : (s.queue q).settings.holdTime = 0
  · have hd : (takenFields s p q).deadline = none := if_pos ht
    rw [hd] at hlist
    refine h.neverRan hothers hquiet (fun f hf => ?_) hlist htick
    cases htaken.symm.trans hf
    exact hd
  · have hd : (takenFields s p q).deadline = some (s.tick + (s.queue q).settings.holdTime.setWidth 32) := if_neg ht
    rw [hd, ← h.timeoutsWithout_eq hquiet] at hlist
    refine h.deadlineSet hothers htaken hd (Option.some_ne_none q) ht rfl htick (hlist.trans ?_)
    rw [hslot]

/-- RENEW sets the deadline anew from the present (R91). -/
theorem TimeoutLaw.renewed (h : s.TimeoutLaw) {m : CellNo} {c : Nat} {f : TakenFields} (hs : f.source ≠ none)
    (ht : f.holdTime ≠ 0) : (renewEffect p i m c f (s.tick + f.holdTime.setWidth 32) s).TimeoutLaw := by
  have hholdings : (renewEffect p i m c f (s.tick + f.holdTime.setWidth 32) s).holdings =
      (s.setSlot p i { s.slot p i with
        holding := .taken m c { f with deadline := some (s.tick + f.holdTime.setWidth 32) } }).holdings := rfl
  have hslot := slot_of_holdings hholdings
  refine h.deadlineSet (f := { f with deadline := some (s.tick + f.holdTime.setWidth 32) })
    (otherSlotsKept_of_holdings hholdings) ?_ rfl hs ht rfl rfl ?_
  · rw [hslot]
    rfl
  · rw [hslot]
    rfl

/-- The slot ALLOCATE fills is FRESH, and runs no deadline (R79). -/
theorem TimeoutLaw.allocated (h : s.TimeoutLaw) (n : Nat) (m : CellNo) (hi : (s.slot p i).holding = .empty) :
    (allocateEffect p n i m s).TimeoutLaw := by
  have hholdings : (allocateEffect p n i m s).holdings =
      (s.setSlot p i { s.slot p i with holding := .fresh m n }).holdings := rfl
  refine h.neverRan (otherSlotsKept_of_holdings hholdings) (noDeadline_of_empty hi) ?_ rfl rfl
  exact noDeadline_of_fresh (by rw [slot_of_holdings hholdings])

/-- Every single change keeps the laws of the timeout list. -/
theorem TimeoutLaw.change (hc : Change s t) (h : s.TimeoutLaw) : t.TimeoutLaw := by
  cases hc with
  | allocate p n i m hd hcheck =>
    obtain ⟨-, -, hempty, -⟩ := allocateCheck_eq_ok hcheck
    exact h.allocated n m hempty
  | putFresh p i q o m c hd ha hl hh =>
    exact h.emptiedQuietly (noDeadline_of_fresh hh) (putFresh_holdings ..) (by rw [putFresh_frame])
      (by rw [putFresh_frame])
  | putTaken p i q o m c f =>
    exact h.emptied (putTaken_holdings ..) (putTaken_timeouts ..) (by rw [putTaken_frame])
  | take p q i m e hd ha hm hi => exact h.taken q m e hi
  | release p i m =>
    exact h.emptied (releaseEffect_holdings ..) (releaseEffect_timeouts ..) (by rw [releaseEffect_frame])
  | drop p i m hd hm hs =>
    exact h.emptiedQuietly (h.noDeadline_of_source hs) (s.dropHolding_holdings ..) (by rw [dropHolding_frame])
      (by rw [dropHolding_frame])
  | renew p i m c f hd hh hs ht => exact h.renewed hs ht
  | endHolding p i m c f q =>
    exact h.emptied (s.endHolding_holdings ..) (s.endHolding_timeouts ..) (by rw [endHolding_frame])
  | dropEntry e he hh =>
    obtain ⟨f, hf, -, hd⟩ := h.held e he
    exact absurd (hh f hf) (h.live _ _ f _ hf hd).1
  | finishWalk => exact of_cleared (fun r j => by simp [finishWalk, slot, Slot.cleared]) rfl
  | powerOn => exact of_cleared (fun r j => by simp [poweredOn, slot, Slot.cleared]) rfl
  | deviceReset => exact of_cleared (fun r j => by simp [deviceReset, poweredOn, slot, Slot.cleared]) rfl
  | deleteQueue q => exact h.orphaned q
  | advanceTick => exact h.advanced
  | markDue => exact h.marked s.tick (fun _ _ _ => le_rfl) (fun _ _ _ _ _ _ => id)
  | raise => rw [raise_frame]; exact h.congr rfl rfl rfl
  | updateMessage => rw [updateMessage_frame]; exact h.congr rfl rfl rfl
  | modifyQueue => rw [modifyQueueEffect_frame]; exact h.congr rfl rfl rfl
  | fencePort => rw [setAside_frame]; exact h.congr rfl rfl rfl
  | resetPort => rw [portRestart_frame]; exact h.congr rfl rfl rfl
  | lineAsserted => rw [portGone_frame]; exact h.congr rfl rfl rfl
  | lineAssertedWithJob => rw [portGoneWithJob_frame]; exact h.congr rfl rfl rfl
  | walkHead => rw [walkHead_frame]; exact h.congr rfl rfl rfl
  | portJobDone => split <;> exact h.congr rfl rfl rfl
  | _ => exact h.congr rfl rfl rfl

end State

/-- Settles O11: every single change keeps the laws, so a chain of them does, and the laws do not speak of the
queue of commands. -/
theorem stepKeepsTheTimeoutLaw : Obligations.StepKeepsTheTimeoutLaw := by
  intro s t hs h
  exact step_keeps (P := State.TimeoutLaw) (fun _ _ hp => hp.congr rfl rfl rfl) (fun _ _ hc => .change hc) hs h

end Sys2Proof.Machine
end

section
/-! Proofs/PortEffects.lean: what the changes of a port write in the port table, the interfaces, the claims, the
notice units and the reclaim list. -/

namespace Sys2Proof.Machine

namespace State

section Gone

variable (s : State) (p : Port) (y : SettleState)

theorem portGone_port_same : (s.portGone p y).port p = { s.port p with state := .down, settle := y } :=
  s.movePort_port_same p .down y

theorem portGone_port_other (r : Port) (h : r ≠ p) : (s.portGone p y).port r = s.port r :=
  s.movePort_port_other p r .down y h

theorem portGone_queue (q : QueueNo) :
    (s.portGone p y).queue q =
      if (s.queue q).claimant = some p then { s.queue q with claimant := none } else s.queue q :=
  (s.movePort p .down y).clearClaims_queue p q

theorem portGone_noticeUnit_same : (s.portGone p y).noticeUnit p = .cleared :=
  setNoticeUnit_noticeUnit_same _ p _

theorem portGone_noticeUnit_other (r : Port) (h : r ≠ p) : (s.portGone p y).noticeUnit r = s.noticeUnit r :=
  setNoticeUnit_noticeUnit_other _ p r _ h

theorem portGone_interface_other (r : Port) (h : r ≠ p) : (s.portGone p y).interface r = s.interface r :=
  setInterface_interface_other _ p r _ h

theorem portGone_line : ((s.portGone p y).interface p).line = (s.interface p).line :=
  (congrArg PortInterface.line (setInterface_interface_same _ p _)).trans rfl

theorem portGone_slot_status :
    ((s.portGone p y).interface p).slot = slotAfterReset (s.interface p).slot :=
  (congrArg PortInterface.slot (setInterface_interface_same _ p _)).trans rfl

/-- No command waits in a command slot after a port reset (R72). -/
theorem slotAfterReset_not_waiting (x : CommandSlot) (c : CommandRecord) : (slotAfterReset x).status ≠ .waiting c := by
  unfold slotAfterReset
  split
  · next h => simp [h]
  · simp [CommandSlot.idle]
  · next h => split <;> simp [h, CommandSlot.idle]

theorem portGone_hasPortJob (r : Port) : (s.portGone p y).hasPortJob r = s.hasPortJob r := by
  rw [portGone_frame]
  rfl

theorem portGone_holdsAny (r : Port) : (s.portGone p y).holdsAny r = s.holdsAny r :=
  holdsAny_congr (by rw [portGone_frame]) r

end Gone

section Jobs

variable (s : State) (p : Port)

theorem hasPortJob_eq_true : s.hasPortJob p = true ↔ ∃ e, Job.port p e ∈ s.jobs := by
  unfold hasPortJob
  rw [List.any_eq_true]
  constructor
  · rintro ⟨j, hj, hp⟩
    cases j with
    | port r e =>
      rw [beq_iff_eq] at hp
      exact ⟨e, hp ▸ hj⟩
    | purge => cases hp
    | delete => cases hp
  · rintro ⟨e, he⟩
    exact ⟨_, he, beq_self_eq_true p⟩

end Jobs

/-! ## The quota of a port -/

section Quota

variable (s : State) (p r : Port)

theorem movePort_quota (x : PortState) (y : SettleState) : ((s.movePort p x y).port r).quota = (s.port r).quota := by
  by_cases h : r = p
  · rw [h, movePort_port_same]
  · rw [movePort_port_other _ _ _ _ _ h]

theorem setAside_quota : ((s.setAside p).port r).quota = (s.port r).quota := by
  by_cases h : r = p
  · rw [h, setAside_port_same]
  · rw [setAside_port_other _ _ _ h]

theorem releaseReset_quota : ((s.releaseReset p).port r).quota = (s.port r).quota := by
  by_cases h : r = p
  · rw [h, releaseReset_port_same]
  · rw [releaseReset_port_other _ _ _ h]

theorem portGone_quota (y : SettleState) : ((s.portGone p y).port r).quota = (s.port r).quota :=
  s.movePort_quota p r .down y

theorem advanceOrdinal_quota : ((s.advanceOrdinal p).port r).quota = (s.port r).quota := by
  by_cases h : r = p
  · rw [h, advanceOrdinal, setPortEntry_port_same]
  · rw [advanceOrdinal, setPortEntry_port_other _ _ _ _ h]

end Quota

end State

theorem takeEffect_port (s : State) (p r : Port) (q : QueueNo) (i : SlotNo) (m : CellNo) (e : ListEnd) :
    (takeEffect p q i m e s).port r = (s.advanceOrdinal p).port r := by
  unfold takeEffect
  rw [State.insertDeadline_frame, State.unlink_frame]
  rfl

end Sys2Proof.Machine
end

section
/-! Proofs/QuotaLaw.lean: every single change keeps held cells within the quota (R31). -/

namespace Sys2Proof.Machine

theorem Holding.orphaned_cellCount (q : QueueNo) (h : Holding) : (h.orphaned q).cellCount = h.cellCount := by
  cases h with
  | taken m c f => unfold orphaned; dsimp only; split <;> rfl
  | _ => rfl

namespace State

variable {s t : State} {p : Port} {i : SlotNo}

/-- The slots of a port as its numbered slots. -/
theorem slots_eq_map (s : State) (p : Port) : s.slots p = (List.finRange 32).map (s.slot p) := by
  refine List.ext_getElem (by simp [slots]) fun n h _ => ?_
  simp [slots, slot]

/-- The held cells are read from the cell counts alone. -/
theorem heldCells_of_cellCount
    (h : ∀ j, (t.slot p j).holding.cellCount = (s.slot p j).holding.cellCount) : t.heldCells p = s.heldCells p := by
  simp only [heldCells, slots_eq_map, List.map_map, Function.comp_def, h]

theorem heldCells_eq_zero (h : ∀ j, (t.slot p j).holding = .empty) : t.heldCells p = 0 := by
  simp [heldCells, slots_eq_map, Function.comp_def, h, Holding.cellCount]

theorem heldCells_of_otherSlotsKept (h : s.otherSlotsKept t p i) {r : Port} (hr : r ≠ p) :
    t.heldCells r = s.heldCells r :=
  heldCells_of_cellCount fun j => by rw [h r j (.inl hr)]

namespace QuotaLaw

theorem congr (h : s.QuotaLaw) (hh : t.holdings = s.holdings) (hq : ∀ r, (t.port r).quota = (s.port r).quota) :
    t.QuotaLaw := fun r => by
  rw [heldCells_congr hh, hq]
  exact h r

theorem of_cleared (hh : ∀ r j, (t.slot r j).holding = .empty) : t.QuotaLaw := fun r => by
  rw [heldCells_eq_zero (hh r)]
  exact Nat.zero_le _

/-- One slot is written, and its port's quota allows its cells. -/
theorem slotWritten (h : s.QuotaLaw) {x : Slot} (hh : t.holdings = (s.setSlot p i x).holdings)
    (hx : s.heldCells p + x.holding.cellCount ≤ (s.port p).quota + (s.slot p i).holding.cellCount)
    (hq : ∀ r, (t.port r).quota = (s.port r).quota) : t.QuotaLaw := fun r => by
  rw [hq]
  by_cases hr : r = p
  · have := heldCells_of_holdings hh
    rw [hr]
    omega
  · rw [heldCells_of_otherSlotsKept (otherSlotsKept_of_holdings hh) hr]
    exact h r

theorem emptied (h : s.QuotaLaw) (hh : t.holdings = (s.emptySlot p i).holdings)
    (hq : ∀ r, (t.port r).quota = (s.port r).quota) : t.QuotaLaw :=
  h.slotWritten hh (Nat.le_trans (h p) (Nat.le_add_right _ _)) hq

/-- An orphaned holding keeps its cells (R156). -/
theorem orphaned (h : s.QuotaLaw) (q : QueueNo) : (deleteQueueEffect q s).QuotaLaw := fun r => by
  have kept : (deleteQueueEffect q s).heldCells r = s.heldCells r :=
    heldCells_of_cellCount fun j => by rw [deleteQueueEffect_slot]; exact Holding.orphaned_cellCount q _
  have hport : (deleteQueueEffect q s).port r = s.port r := by
    rw [deleteQueueEffect_frame]
    rfl
  rw [kept, hport]
  exact h r

/-- SET PORT refuses a quota below the held cells (R159). -/
theorem quotaSet (h : s.QuotaLaw) {r : Port} {quota : Nat} (admin : Bool) (hq : s.heldCells r ≤ quota) :
    (setPortEffect r quota admin s).QuotaLaw := fun x => by
  have hheld : (setPortEffect r quota admin s).heldCells x = s.heldCells x := heldCells_congr rfl x
  rw [hheld, setPortEffect]
  by_cases hx : x = r
  · rw [hx, setPortEntry_port_same]
    exact hq
  · rw [setPortEntry_port_other _ _ _ _ hx]
    exact h x

/-- Every single change keeps held cells within the quota. -/
theorem change (hc : Change s t) (h : s.QuotaLaw) : t.QuotaLaw := by
  cases hc with
  | allocate p n i m hd hcheck =>
    obtain ⟨-, -, hempty, hquota, -⟩ := allocateCheck_eq_ok hcheck
    exact h.slotWritten (x := { s.slot p i with holding := .fresh m n }) rfl
      (Nat.le_trans hquota (Nat.le_add_right _ _)) (fun _ => rfl)
  | take p q i m e hd ha hm hi hquota =>
    exact h.slotWritten (takeEffect_holdings ..) (Nat.le_trans hquota (Nat.le_add_right _ _))
      (fun r => by rw [takeEffect_port, advanceOrdinal_quota])
  | renew p i m c f hd hh =>
    refine h.slotWritten (p := p) (i := i) (x := { s.slot p i with
      holding := .taken m c { f with deadline := some (s.tick + f.holdTime.setWidth 32) } }) rfl ?_ (fun _ => rfl)
    rw [hh]
    exact Nat.add_le_add_right (h p) c
  | putFresh => exact h.emptied (putFresh_holdings ..) (fun _ => by rw [putFresh_frame]; rfl)
  | putTaken => exact h.emptied (putTaken_holdings ..) (fun _ => by rw [putTaken_frame]; rfl)
  | release => exact h.emptied (releaseEffect_holdings ..) (fun _ => by rw [releaseEffect_frame]; rfl)
  | drop => exact h.emptied (s.dropHolding_holdings ..) (fun _ => by rw [dropHolding_frame]; rfl)
  | endHolding => exact h.emptied (s.endHolding_holdings ..) (fun _ => by rw [endHolding_frame]; rfl)
  | finishWalk => exact of_cleared fun r j => by simp [finishWalk, slot, Slot.cleared]
  | powerOn => exact of_cleared fun r j => by simp [poweredOn, slot, Slot.cleared]
  | deviceReset => exact of_cleared fun r j => by simp [deviceReset, poweredOn, slot, Slot.cleared]
  | deleteQueue q => exact h.orphaned q
  | setPort p r quota admin hq => exact h.quotaSet admin hq
  | fencePort => exact h.congr (by rw [setAside_frame]; rfl) fun _ => setAside_quota ..
  | unfencePort => exact h.congr rfl fun _ => movePort_quota ..
  | resetPort =>
    refine h.congr (by rw [portRestart_frame]; rfl) fun r => ?_
    rw [releaseReset_quota, appendPortJob_port, portGone_quota]
    rfl
  | lineAsserted => exact h.congr (by rw [portGone_frame]; rfl) fun _ => portGone_quota ..
  | lineAssertedWithJob =>
    refine h.congr (by rw [portGoneWithJob_frame]; rfl) fun r => ?_
    rw [appendPortJob_port]
    exact portGone_quota ..
  | lineReleased => exact h.congr rfl fun _ => releaseReset_quota ..
  | portJobDone =>
    split
    · exact h.congr rfl fun _ => movePort_quota ..
    · exact h.congr rfl fun _ => rfl
  | raise => rw [raise_frame]; exact h.congr rfl fun _ => rfl
  | updateMessage => rw [updateMessage_frame]; exact h.congr rfl fun _ => rfl
  | modifyQueue => rw [modifyQueueEffect_frame]; exact h.congr rfl fun _ => rfl
  | walkHead => rw [walkHead_frame]; exact h.congr rfl fun _ => rfl
  | _ => exact h.congr rfl fun _ => rfl

end QuotaLaw

end State

/-- Settles O8: the three changes that raise held cells or lower a quota check the one against the other. -/
theorem stepKeepsHeldCellsWithinTheQuota : Obligations.StepKeepsHeldCellsWithinTheQuota := by
  intro s t hs h
  exact step_keeps (P := State.QuotaLaw) (fun _ _ hp => hp.congr rfl fun _ => rfl) (fun _ _ hc => .change hc) hs h

end Sys2Proof.Machine
end

section
/-! Proofs/Pool.lean: the message table as a list, and the pool of cells (free list, retired set, fault marks and
message table) under the operations that change it. -/

namespace Sys2Proof.Machine

/-! ## The message table -/

namespace MessageTable

variable {t : MessageTable} {m : CellNo} {r : Message}

/-- The numbers of the messages. -/
def keys (t : MessageTable) : List CellNo := t.map (fun e => e.1)

/-- The table with of each record its cells alone. -/
def cellLists (t : MessageTable) : List (CellNo × List CellNo) := t.map (fun e => (e.1, e.2.cells))

theorem keys_eq_map_cellLists (t : MessageTable) : t.keys = t.cellLists.map Prod.fst := by
  simp [keys, cellLists, Function.comp_def]

theorem flatMap_cells (t : MessageTable) : t.flatMap (fun e => e.2.cells) = t.cellLists.flatMap Prod.snd := by
  simp [cellLists, List.flatMap_map]

theorem mem_of_get? (h : t.get? m = some r) : (m, r) ∈ t := by
  induction t with
  | nil => cases h
  | cons e rest ih =>
    rw [get?] at h
    split at h
    · next hk => cases h; cases hk; exact .head _
    · exact .tail _ (ih h)

theorem get?_eq_none : t.get? m = none ↔ m ∉ t.keys := by
  induction t with
  | nil => simp [get?, keys]
  | cons e rest ih =>
    rw [get?]
    split
    · next hk => simp [keys, hk]
    · next hk => simpa [keys, Ne.symm hk] using ih

/-- What a record's cells are is read from the cell lists. -/
theorem get?_map_cells (t : MessageTable) (m : CellNo) :
    (t.get? m).map (fun r => r.cells) = t.cellLists.lookup m := by
  induction t with
  | nil => rfl
  | cons e rest ih =>
    obtain ⟨k, x⟩ := e
    rw [get?, cellLists, List.map_cons, List.lookup_cons]
    split
    · next hk => simp [hk]
    · next hk =>
      simp only [beq_eq_false_iff_ne.2 (Ne.symm hk)]
      exact ih

theorem get?_of_mem (ha : t.keys.Pairwise (· < ·)) (h : (m, r) ∈ t) : t.get? m = some r := by
  induction t with
  | nil => cases h
  | cons e rest ih =>
    obtain ⟨k, x⟩ := e
    obtain ⟨hk, hrest⟩ := List.pairwise_cons.1 ha
    rw [get?]
    rcases List.mem_cons.1 h with heq | hmem
    · cases heq
      rw [if_pos rfl]
    · rw [if_neg (ne_of_lt (hk m (List.mem_map.2 ⟨_, hmem, rfl⟩))), ih hrest hmem]

/-- A record written in the place of one keeps the rest of the table. -/
theorem put_eq_map (ha : t.keys.Pairwise (· < ·)) (h : m ∈ t.keys) (x : Message) :
    t.put m x = t.map (fun e => if e.1 = m then (m, x) else e) := by
  induction t with
  | nil => cases h
  | cons e rest ih =>
    obtain ⟨k, y⟩ := e
    obtain ⟨hk, hrest⟩ := List.pairwise_cons.1 ha
    rw [put, List.map_cons]
    by_cases hmk : m = k
    · subst hmk
      rw [if_pos rfl, if_pos rfl]
      refine congrArg (_ :: ·) ((List.map_congr_left fun e he => ?_).trans (List.map_id _)).symm
      exact if_neg (ne_of_gt (hk e.1 (List.mem_map.2 ⟨e, he, rfl⟩)))
    · have hmem : m ∈ keys rest := (List.mem_cons.1 h).resolve_left hmk
      rw [if_neg hmk, if_neg (not_lt_of_gt (hk m hmem)), if_neg (Ne.symm hmk), ih hrest hmem]

/-- A record of a new number stands beside those there were. -/
theorem put_perm (h : m ∉ t.keys) (x : Message) : (t.put m x).Perm ((m, x) :: t) := by
  induction t with
  | nil => exact .refl _
  | cons e rest ih =>
    obtain ⟨k, y⟩ := e
    obtain ⟨hmk, hmem⟩ := not_or.1 (mt List.mem_cons.2 h)
    rw [put, if_neg hmk]
    split
    · exact .refl _
    · exact ((ih hmem).cons _).trans (.swap _ _ _)

theorem keys_put_perm (h : m ∉ t.keys) (x : Message) : (t.put m x).keys.Perm (m :: t.keys) :=
  (put_perm h x).map _

theorem put_ascending (ha : t.keys.Pairwise (· < ·)) (h : m ∉ t.keys) (x : Message) :
    (t.put m x).keys.Pairwise (· < ·) := by
  induction t with
  | nil => exact List.pairwise_singleton _ _
  | cons e rest ih =>
    obtain ⟨k, y⟩ := e
    obtain ⟨hmk, hmem⟩ := not_or.1 (mt List.mem_cons.2 h)
    obtain ⟨hk, hrest⟩ := List.pairwise_cons.1 ha
    rw [put, if_neg hmk]
    split
    · next hlt =>
      refine List.pairwise_cons.2 ⟨fun a hm => ?_, ha⟩
      rcases List.mem_cons.1 hm with rfl | hm
      · exact hlt
      · exact lt_trans hlt (hk a hm)
    · next hlt =>
      refine List.pairwise_cons.2 ⟨fun a hm => ?_, ih hrest hmem⟩
      rcases List.mem_cons.1 ((keys_put_perm hmem x).mem_iff.1 hm) with rfl | hm
      · exact lt_of_le_of_ne (not_lt.1 hlt) (Ne.symm hmk)
      · exact hk a hm

theorem drop_of_not_mem (h : m ∉ t.keys) : t.drop m = t :=
  List.filter_eq_self.2 fun e he => decide_eq_true fun hm => h (List.mem_map.2 ⟨e, he, hm⟩)

/-- The table as the dropped record beside the rest. -/
theorem drop_perm (ha : t.keys.Pairwise (· < ·)) (h : t.get? m = some r) : t.Perm ((m, r) :: t.drop m) := by
  induction t with
  | nil => cases h
  | cons e rest ih =>
    obtain ⟨k, x⟩ := e
    obtain ⟨hk, hrest⟩ := List.pairwise_cons.1 ha
    rw [get?] at h
    split at h
    · next hkm =>
      cases h
      subst hkm
      have hnot : k ∉ keys rest := fun hm => lt_irrefl _ (hk k hm)
      have hdrop : MessageTable.drop ((k, r) :: rest) k = rest := by
        rw [drop, List.filter_cons_of_neg (by simp)]
        exact drop_of_not_mem hnot
      rw [hdrop]
    · next hkm =>
      have hdrop : MessageTable.drop ((k, x) :: rest) m = (k, x) :: MessageTable.drop rest m :=
        List.filter_cons_of_pos (by simpa using hkm)
      rw [hdrop]
      exact ((ih hrest h).cons _).trans (.swap _ _ _)

theorem drop_ascending (ha : t.keys.Pairwise (· < ·)) (m : CellNo) : (t.drop m).keys.Pairwise (· < ·) :=
  ha.sublist (List.filter_sublist.map _)

/-- The record of `m` changed by `f`, if there is one. -/
def update (t : MessageTable) (m : CellNo) (f : Message → Message) : MessageTable :=
  match t.get? m with
  | none => t
  | some r => t.put m (f r)

theorem update_cellLists (ha : t.keys.Pairwise (· < ·)) (m : CellNo) {f : Message → Message}
    (hf : ∀ r, (f r).cells = r.cells) : (t.update m f).cellLists = t.cellLists := by
  unfold update
  split
  · rfl
  · next r hr =>
    have hmem := mem_of_get? hr
    rw [put_eq_map ha (List.mem_map.2 ⟨_, hmem, rfl⟩), cellLists, List.map_map]
    refine List.map_congr_left fun e he => ?_
    simp only [Function.comp_def]
    split
    · next hm =>
      have := get?_of_mem ha (show (m, e.2) ∈ t from hm ▸ he)
      rw [hr] at this
      cases this
      simp [hf, hm]
    · rfl

end MessageTable

/-! ## Ascending sets of cells -/

theorem insertCell_perm {c : CellNo} {l : List CellNo} (h : c ∉ l) : (insertCell c l).Perm (c :: l) := by
  induction l with
  | nil => exact .refl _
  | cons k rest ih =>
    obtain ⟨hck, hmem⟩ := not_or.1 (mt List.mem_cons.2 h)
    rw [insertCell, if_neg hck]
    split
    · exact .refl _
    · exact ((ih hmem).cons _).trans (.swap _ _ _)

theorem foldl_insertCell_perm {l r : List CellNo} (hl : l.Nodup) (hd : ∀ c ∈ l, c ∉ r) :
    (l.foldl (fun r c => insertCell c r) r).Perm (r ++ l) := by
  induction l generalizing r with
  | nil => simp
  | cons c l ih =>
    obtain ⟨hc, hl⟩ := List.nodup_cons.1 hl
    have hcr := insertCell_perm (hd c (.head _))
    refine (ih hl fun x hx => ?_).trans ((hcr.append_right l).trans List.perm_middle.symm)
    rw [State.mem_insertCell, not_or]
    exact ⟨fun hxc => hc (hxc ▸ hx), hd x (.tail _ hx)⟩

/-! ## The pool -/

/-- What the pool law speaks of beside the device, the walk and the slots. -/
structure Pool where
  freeList : List CellNo
  retired : List CellNo
  faultMarks : List CellNo
  messages : MessageTable

namespace Pool

/-- The cells of the three places (R11). -/
def cells (x : Pool) : List CellNo := x.freeList ++ x.retired ++ x.messages.flatMap (fun e => e.2.cells)

def messageCells (x : Pool) (m : CellNo) : List CellNo := ((x.messages.get? m).map (fun r => r.cells)).getD []

/-- Message `m` freed: its cells to the free list or the retired set, its record gone (R9). -/
def freed (x : Pool) (m : CellNo) : Pool where
  freeList := x.freeList ++ (x.messageCells m).filter (fun c => !x.faultMarks.contains c)
  retired := ((x.messageCells m).filter (fun c => x.faultMarks.contains c)).foldl (fun r c => insertCell c r) x.retired
  faultMarks := x.faultMarks
  messages := x.messages.drop m

def updated (x : Pool) (m : CellNo) (f : Message → Message) : Pool := { x with messages := x.messages.update m f }

/-- The pool of a formatted part: every cell in one place, the marks as the places require. -/
structure Complete (x : Pool) : Prop where
  ascending : x.messages.keys.Pairwise (· < ·)
  named : ∀ e ∈ x.messages.cellLists, e.2.head? = some e.1
  accounted : x.cells.Perm (List.finRange 4096)
  free : ∀ c ∈ x.freeList, x.faultMarks.contains c = false
  retired : ∀ c ∈ x.retired, x.faultMarks.contains c = true

variable {x : Pool}

theorem Complete.nodup (h : x.Complete) : x.cells.Nodup := h.accounted.nodup_iff.2 (List.nodup_finRange 4096)

theorem Complete.of_cellLists (h : x.Complete) {t : MessageTable} (ht : t.cellLists = x.messages.cellLists) :
    Complete { x with messages := t } := by
  obtain ⟨ascending, named, accounted, free, retired⟩ := h
  refine ⟨?_, by rwa [ht], ?_, free, retired⟩
  · rwa [MessageTable.keys_eq_map_cellLists, ht, ← MessageTable.keys_eq_map_cellLists]
  · rwa [cells, MessageTable.flatMap_cells, ht, ← MessageTable.flatMap_cells]

theorem Complete.updated (h : x.Complete) (m : CellNo) {f : Message → Message} (hf : ∀ r, (f r).cells = r.cells) :
    (x.updated m f).Complete :=
  h.of_cellLists (MessageTable.update_cellLists h.ascending m hf)

theorem messageCells_of_get? {m : CellNo} {r : Message} (h : x.messages.get? m = some r) :
    x.messageCells m = r.cells := by
  simp [messageCells, h]

theorem messageCells_of_none {m : CellNo} (h : x.messages.get? m = none) : x.messageCells m = [] := by
  simp [messageCells, h]

theorem mem_cells_of_message {m c : CellNo} (h : c ∈ x.messageCells m) :
    c ∈ x.messages.flatMap (fun e => e.2.cells) := by
  cases hr : x.messages.get? m with
  | none => simp [messageCells_of_none hr] at h
  | some r =>
    rw [messageCells_of_get? hr] at h
    exact List.mem_flatMap.2 ⟨_, MessageTable.mem_of_get? hr, h⟩

/-- A message's cells are in no other place. -/
theorem Complete.disjoint (h : x.Complete) {c : CellNo} (hc : c ∈ x.messages.flatMap (fun e => e.2.cells)) :
    c ∉ x.freeList ∧ c ∉ x.retired := by
  have := (List.nodup_append'.1 h.nodup).2.2
  rw [← not_or, ← List.mem_append]
  exact fun hm => this hm hc

/-- Freeing a message moves its cells and no others (R9). -/
theorem Complete.freed (h : x.Complete) (m : CellNo) : (x.freed m).Complete := by
  cases hr : x.messages.get? m with
  | none =>
    have same : x.freed m = x := by
      rw [Pool.freed, messageCells_of_none hr, MessageTable.drop_of_not_mem (MessageTable.get?_eq_none.1 hr)]
      simp
    rwa [same]
  | some r =>
    have hcells := messageCells_of_get? hr
    have hperm := MessageTable.drop_perm h.ascending hr
    have hmem {c} (hc : c ∈ r.cells) := mem_cells_of_message (x := x) (hcells ▸ hc)
    have hflat := hperm.flatMap_right (fun e => e.2.cells)
    rw [List.flatMap_cons] at hflat
    have hnodup : r.cells.Nodup :=
      (List.nodup_append'.1 (hflat.nodup_iff.1 (List.nodup_append'.1 h.nodup).2.1)).1
    have hretired := foldl_insertCell_perm (hnodup.filter (fun c => x.faultMarks.contains c)) (r := x.retired)
      fun c hc => (h.disjoint (hmem (List.mem_filter.1 hc).1)).2
    have split : (r.cells.filter (fun c => !x.faultMarks.contains c) ++
        r.cells.filter (fun c => x.faultMarks.contains c)).Perm r.cells :=
      List.perm_append_comm.trans (List.filter_append_perm _ r.cells)
    refine ⟨MessageTable.drop_ascending h.ascending m, fun e he => ?_, ?_, fun c hc => ?_, fun c hc => ?_⟩
    · exact h.named e ((List.filter_sublist.map _).subset he)
    · refine List.Perm.trans (List.perm_iff_count.2 fun c => ?_) h.accounted
      have hflat := hflat.count_eq c
      have hretired := hretired.count_eq c
      have split := split.count_eq c
      simp only [cells, Pool.freed, hcells, List.count_append] at *
      omega
    · simp only [Pool.freed, List.mem_append, List.mem_filter, Bool.not_eq_true'] at hc
      exact hc.elim (h.free c) (fun hc => hc.2)
    · simp only [Pool.freed, State.mem_foldl_insertCell, List.mem_filter] at hc
      exact hc.elim (h.retired c) (fun hc => hc.2)

end Pool

end Sys2Proof.Machine
end

section
/-! Proofs/PoolLaw.lean: every single change keeps the accounting of the pool (R7, R10, R11, R16). -/

namespace Sys2Proof.Machine

/-! ## The pool after each operation -/

namespace State

/-- The pool of the part. -/
def pool (s : State) : Pool := ⟨s.freeList, s.retired, s.faultMarks, s.messages⟩

variable (s : State)

theorem pool_messageCells (m : CellNo) : s.pool.messageCells m = s.messageCells m := by
  unfold Pool.messageCells messageCells message pool
  dsimp only
  cases s.messages.get? m <;> rfl

theorem updateMessage_pool (m : CellNo) (f : Message → Message) :
    (s.updateMessage m f).pool = s.pool.updated m f := by
  unfold updateMessage Pool.updated MessageTable.update message pool
  dsimp only
  cases s.messages.get? m <;> rfl

theorem freeMessage_pool (m : CellNo) : (s.freeMessage m).pool = s.pool.freed m := by
  have messages : (s.freeMessage m).messages = s.messages.drop m :=
    congrArg (MessageTable.drop · m) (s.foldl_freeCell_messages _)
  unfold Pool.freed
  rw [pool_messageCells]
  unfold pool
  rw [freeMessage_freeList, freeMessage_retired, messages, freeMessage_frame]
  rfl

theorem dropHolding_pool (p : Port) (i : SlotNo) (m : CellNo) :
    (s.dropHolding p i m).pool = s.pool.freed m := (s.emptySlot p i).freeMessage_pool m

theorem walkHead_pool (q : QueueNo) (m : CellNo) : (s.walkHead q m).pool = s.pool.freed m := by
  have unlinked : (s.unlink q .head).pool = s.pool := by
    rw [unlink_frame]
    rfl
  rw [← unlinked]
  exact (s.unlink q .head).freeMessage_pool m

/-- The return path frees a message or rewrites its record (R110). -/
theorem returnPath_pool (q : QueueNo) (m : CellNo) :
    (s.returnPath q m).pool = s.pool.freed m ∨
      ∃ f : Message → Message, (∀ r, (f r).cells = r.cells) ∧ (s.returnPath q m).pool = s.pool.updated m f := by
  have linked (t : State) (x : QueueNo) (e : ListEnd) : (t.link x e m).pool = t.pool := by
    rw [link_frame]
    rfl
  have lowered (f : Message → Message) : ((s.lowerOutstanding q).updateMessage m f).pool = s.pool.updated m f :=
    (s.lowerOutstanding q).updateMessage_pool m f
  unfold returnPath settleReturn
  dsimp only
  split
  · refine .inr ⟨_, ?_, (linked _ _ _).trans (lowered _)⟩
    exact fun _ => rfl
  · refine .inr ⟨_, ?_, (linked _ _ _).trans (lowered _)⟩
    exact fun _ => rfl
  · exact .inl ((s.lowerOutstanding q).freeMessage_pool m)

end State

section Effects

variable (s : State) (p : Port) (i : SlotNo) (q : QueueNo) (o : Operands) (m : CellNo) (f : TakenFields)

theorem putFresh_pool :
    (putFresh p i q o m s).pool = s.pool.updated m (fun r => { r with length := o.length, tag := o.tag }) := by
  rw [← State.updateMessage_pool]
  unfold putFresh
  generalize s.updateMessage m _ = t
  rw [State.emptySlot_frame, State.link_frame]
  rfl

theorem putTaken_pool :
    (putTaken p i q o m f s).pool = s.pool.updated m (fun r => { r with redelivery := 0, spilled := false }) := by
  have lowered : ((s.lowerSource f.source).removeTimeout p i).pool = s.pool := by
    rw [State.lowerSource_frame]
    rfl
  rw [← lowered, ← State.updateMessage_pool]
  unfold putTaken
  generalize ((s.lowerSource f.source).removeTimeout p i).updateMessage m _ = t
  rw [State.emptySlot_frame, State.link_frame]
  rfl

theorem releaseEffect_pool (x : Option QueueNo) : (releaseEffect p i m x s).pool = s.pool.freed m := by
  have lowered : ((s.lowerSource x).removeTimeout p i).pool = s.pool := by
    rw [State.lowerSource_frame]
    rfl
  rw [← lowered]
  exact State.dropHolding_pool _ p i m

end Effects

/-- The pool after a new message of the first `n` free cells (R8). -/
def Pool.created (x : Pool) (n : Nat) (m : CellNo) (r : Message) : Pool :=
  { x with freeList := x.freeList.drop n, messages := x.messages.put m r }

/-- The first free cell names no message yet. -/
theorem Pool.Complete.not_mem_keys {x : Pool} (h : x.Complete) {m : CellNo} (hm : m ∈ x.freeList) :
    m ∉ x.messages.keys := by
  intro hk
  obtain ⟨e, he, rfl⟩ := List.mem_map.1 hk
  have hcell : e.1 ∈ e.2.cells :=
    List.mem_of_mem_head? (h.named (e.1, e.2.cells) (List.mem_map.2 ⟨e, he, rfl⟩))
  exact (h.disjoint (List.mem_flatMap.2 ⟨e, he, hcell⟩)).1 hm

theorem Pool.Complete.created {x : Pool} (h : x.Complete) {n : Nat} {m : CellNo} {r : Message} (hn : 1 ≤ n)
    (hm : x.freeList.head? = some m) (hr : r.cells = x.freeList.take n) : (x.created n m r).Complete := by
  have hnew := h.not_mem_keys (List.mem_of_mem_head? hm)
  have hperm := MessageTable.put_perm hnew r
  refine ⟨MessageTable.put_ascending h.ascending hnew r, fun e he => ?_, ?_, fun c hc => ?_, h.retired⟩
  · rcases List.mem_cons.1 ((hperm.map (fun e => (e.1, e.2.cells))).mem_iff.1 he) with rfl | he
    · simp only [hr]
      rw [List.head?_take, if_neg (by omega), hm]
    · exact h.named e he
  · refine List.Perm.trans (List.perm_iff_count.2 fun c => ?_) h.accounted
    have hflat := (hperm.flatMap_right (fun e => e.2.cells)).count_eq c
    have htake := congrArg (List.count c) (List.take_append_drop n x.freeList)
    simp only [cells, Pool.created, List.count_append, List.flatMap_cons, hr] at *
    omega
  · exact h.free c (List.mem_of_mem_drop hc)

/-- A cell of a message marked (R161). -/
theorem Pool.Complete.marked {x : Pool} (h : x.Complete) {m c : CellNo} (hc : c ∈ x.messageCells m) :
    Complete { x with faultMarks := insertCell c x.faultMarks } := by
  have hcell := h.disjoint (mem_cells_of_message hc)
  obtain ⟨ascending, named, accounted, free, retired⟩ := h
  have mem {d} : (insertCell c x.faultMarks).contains d = true ↔ d = c ∨ x.faultMarks.contains d = true := by
    simp [State.mem_insertCell]
  refine ⟨ascending, named, accounted, fun d hd => ?_, fun d hd => mem.2 (.inr (retired d hd))⟩
  rw [← Bool.not_eq_true, mem, not_or, Bool.not_eq_true]
  exact ⟨fun heq => hcell.1 (heq ▸ hd), free d hd⟩

/-! ## The law -/

namespace State

variable {s t : State}

theorem formatted_of_running (h : s.device = .running) : s.formatted := .inl h

theorem not_unready_of_running (h : s.device = .running) : ¬ s.unready := by
  rintro (hd | hd) <;> cases h.symm.trans hd

theorem not_unready_of_halted (h : s.device = .halted) : ¬ s.unready := by
  rintro (hd | hd) <;> cases h.symm.trans hd

theorem unready_congr (h : t.device = s.device) : t.unready ↔ s.unready := by
  simp only [unready, h]

theorem formatted_congr (hd : t.device = s.device) (hk : t.tickPeriod = s.tickPeriod) :
    t.formatted ↔ s.formatted := by
  simp only [formatted, hd, hk]

theorem holdsNothing_congr (h : t.holdings = s.holdings) : s.holdsNothing → t.holdsNothing :=
  fun hs p i => by rw [slot_congr h, hs]

namespace PoolLaw

theorem complete (h : s.PoolLaw) (hf : s.formatted) : s.pool.Complete where
  ascending := h.ascending
  named := fun e he => by
    obtain ⟨x, hx, rfl⟩ := List.mem_map.1 he
    exact h.named x hx
  accounted := h.accounted hf
  free := h.free
  retired := h.retired

/-- In a RUNNING part the law is the completeness of the pool. -/
theorem of_complete (hd : t.device = .running) (h : t.pool.Complete) : t.PoolLaw where
  ascending := h.ascending
  named := fun e he => h.named (e.1, e.2.cells) (List.mem_map.2 ⟨e, he, rfl⟩)
  unready := fun hu => absurd hu (not_unready_of_running hd)
  unformatted := fun hu => by cases hd.symm.trans hu
  formatting := fun hu => by cases hd.symm.trans hu
  accounted := fun _ => h.accounted
  free := h.free
  retired := h.retired

/-- A change that leaves the free list, the sets of cells and every message's cells. -/
theorem of_cellLists (h : s.PoolLaw) (hd : t.device = s.device) (hk : t.tickPeriod = s.tickPeriod)
    (hw : t.walk = s.walk) (hh : s.holdsNothing → t.holdsNothing) (hf : t.freeList = s.freeList)
    (hr : t.retired = s.retired) (hm : t.faultMarks = s.faultMarks)
    (hc : t.messages.cellLists = s.messages.cellLists) : t.PoolLaw := by
  have hkeys : t.messages.keys = s.messages.keys := by
    rw [MessageTable.keys_eq_map_cellLists, hc, ← MessageTable.keys_eq_map_cellLists]
  have hcells : t.messages.flatMap (fun e => e.2.cells) = s.messages.flatMap (fun e => e.2.cells) := by
    rw [MessageTable.flatMap_cells, hc, ← MessageTable.flatMap_cells]
  have hmarked : t.marked = s.marked := by
    funext c
    simp only [marked, hm]
  have hall : t.accountedCells = s.accountedCells := by simp only [accountedCells, hf, hr, hcells]
  obtain ⟨ascending, named, unready, unformatted, formatting, accounted, free, retired⟩ := h
  refine ⟨?_, fun e he => ?_, fun hu => ?_, ?_, ?_, fun hF => ?_, ?_, ?_⟩
  · rwa [show t.messages.map (fun e => e.1) = s.messages.map (fun e => e.1) from hkeys]
  · have hmem : (e.1, e.2.cells) ∈ t.messages.cellLists := List.mem_map.2 ⟨e, he, rfl⟩
    rw [hc] at hmem
    obtain ⟨x, hx, heq⟩ := List.mem_map.1 hmem
    obtain ⟨hx1, hx2⟩ := Prod.mk.inj heq
    rw [← hx1, ← hx2]
    exact named x hx
  · obtain ⟨hnone, hempty, hperiod⟩ := unready ((unready_congr hd).1 hu)
    refine ⟨?_, hh hempty, hk.trans hperiod⟩
    rw [hnone] at hc
    exact List.map_eq_nil_iff.1 hc
  · rwa [hd, hf, hr, hm]
  · rwa [hd, hw, hf, hr, hmarked]
  · rw [hall]
    exact accounted ((formatted_congr hd hk).1 hF)
  · rwa [hf, hmarked]
  · rwa [hr, hmarked]

theorem congr (h : s.PoolLaw) (hd : t.device = s.device) (hk : t.tickPeriod = s.tickPeriod) (hw : t.walk = s.walk)
    (hh : t.holdings = s.holdings) (hf : t.freeList = s.freeList) (hr : t.retired = s.retired)
    (hm : t.faultMarks = s.faultMarks) (hc : t.messages = s.messages) : t.PoolLaw :=
  h.of_cellLists hd hk hw (holdsNothing_congr hh) hf hr hm (by rw [hc])

/-- A RUNNING part's free (R9). -/
theorem freed (h : s.PoolLaw) (hd : s.device = .running) (ht : t.device = .running) {m : CellNo}
    (hp : t.pool = s.pool.freed m) : t.PoolLaw :=
  of_complete ht (hp ▸ (h.complete (formatted_of_running hd)).freed m)

/-- A RUNNING part's change of a record that keeps its cells. -/
theorem updated (h : s.PoolLaw) (hd : s.device = .running) (ht : t.device = .running) {m : CellNo}
    {f : Message → Message} (hf : ∀ r, (f r).cells = r.cells) (hp : t.pool = s.pool.updated m f) : t.PoolLaw :=
  of_complete ht (hp ▸ (h.complete (formatted_of_running hd)).updated m hf)

/-- ALLOCATE takes its cells off the free list into a message (R79). -/
theorem allocated (h : s.PoolLaw) (hd : s.device = .running) {p : Port} {n : Nat} {i : SlotNo} {m : CellNo}
    (hcheck : allocateCheck s p n = .ok (i, m)) : (allocateEffect p n i m s).PoolLaw := by
  obtain ⟨hn, -, -, -, -, hm⟩ := allocateCheck_eq_ok hcheck
  exact of_complete hd ((h.complete (formatted_of_running hd)).created hn hm rfl)

/-- Only a formatted part that is not HALTED has a message whose cell a window access can mark (R161). -/
theorem cellMarked (h : s.PoolLaw) (hd : s.device ≠ .halted) {m c : CellNo} (hc : c ∈ s.messageCells m) :
    (s.markCell c).PoolLaw := by
  have hrun : s.device = .running := by
    by_contra hne
    have hu : s.unready := by
      cases hdev : s.device <;> simp_all [State.unready]
    simp [messageCells, message, (h.unready hu).1, MessageTable.get?] at hc
  rw [← pool_messageCells] at hc
  exact of_complete hrun ((h.complete (formatted_of_running hrun)).marked hc)

/-- Entry to HALTED: a part that was not formatted has no tick period (R24). -/
theorem entersHalted (h : s.PoolLaw) : State.PoolLaw { s with device := .halted } := by
  obtain ⟨ascending, named, unready, unformatted, formatting, accounted, free, retired⟩ := h
  refine ⟨ascending, named, fun hu => absurd hu (not_unready_of_halted rfl), by simp, by simp, fun hf => ?_, free,
    retired⟩
  rcases hf with hf | ⟨-, hperiod⟩
  · cases hf
  · refine accounted ?_
    by_cases hu : s.unready
    · exact absurd (unready hu).2.2 hperiod
    · cases hdev : s.device <;> simp_all [State.unready, formatted]

/-- The FORMAT of an UNFORMATTED part starts with no cell sorted (R12, R15). -/
theorem formatStarted (h : s.PoolLaw) (hd : s.device = .unformatted) (w : FormatWalk) (hw : w.next = 0) :
    State.PoolLaw { s with walk := some w, device := .formatting } := by
  obtain ⟨hfree, hretired, hmarks⟩ := h.unformatted hd
  refine ⟨h.ascending, h.named, fun _ => h.unready (.inl hd), by simp, fun _ => ⟨w, rfl, by omega, ?_, ?_⟩, ?_, h.free,
    h.retired⟩
  · simp [hfree, hretired, hw]
  · simp [marked, hmarks]
  · simp [formatted]

/-- The cells the walk has visited, one more visited. -/
theorem take_succ_perm {n : Nat} (h : n < 4096) :
    ((List.finRange 4096).take (n + 1)).Perm (⟨n, h⟩ :: (List.finRange 4096).take n) := by
  rw [List.take_succ_eq_append_getElem (by simpa using h), List.getElem_finRange]
  exact List.perm_append_comm

theorem not_mem_visited {n : Nat} (h : n < 4096) : (⟨n, h⟩ : CellNo) ∉ (List.finRange 4096).take n := by
  rw [List.mem_take_iff_getElem]
  rintro ⟨k, hk, heq⟩
  rw [List.getElem_finRange] at heq
  have := congrArg Fin.val heq
  simp at this hk
  omega

section Visit

variable {w : FormatWalk} (hn : w.next < 4096)

/-- A cell that verifies joins the free list (R16). -/
theorem visitedFree (h : s.PoolLaw) (hd : s.device = .formatting) (hw : s.walk = some w) :
    ((s.appendCell ⟨w.next, hn⟩).walkNext w).PoolLaw := by
  obtain ⟨x, hx, -, hperm, hmarked⟩ := h.formatting hd
  cases hw.symm.trans hx
  have hnew := not_mem_visited hn
  rw [← hperm.mem_iff, List.mem_append, not_or] at hnew
  refine ⟨h.ascending, h.named, fun _ => h.unready (.inr hd), fun hu => (by cases hd.symm.trans hu),
    fun _ => ⟨_, rfl, hn, ?_, hmarked⟩, fun hf => ?_, fun c hc => ?_, h.retired⟩
  · refine List.Perm.trans ?_ (take_succ_perm hn).symm
    show (s.freeList ++ [(⟨w.next, hn⟩ : CellNo)] ++ s.retired).Perm _
    rw [List.append_assoc]
    exact List.perm_middle.trans (hperm.cons _)
  · rcases hf with hf | ⟨hf, -⟩ <;> cases hd.symm.trans hf
  · rcases List.mem_append.1 hc with hc | hc
    · exact h.free c hc
    · rw [List.mem_singleton] at hc
      rw [← Bool.not_eq_true, hc]
      exact fun hm => hnew.2 (hmarked _ hm)

/-- A cell that fails is marked and retired (R16). -/
theorem visitedRetire (h : s.PoolLaw) (hd : s.device = .formatting) (hw : s.walk = some w) :
    (((s.markCell ⟨w.next, hn⟩).retireCell ⟨w.next, hn⟩).walkNext w).PoolLaw := by
  obtain ⟨x, hx, -, hperm, hmarked⟩ := h.formatting hd
  cases hw.symm.trans hx
  have hnew := not_mem_visited hn
  rw [← hperm.mem_iff, List.mem_append, not_or] at hnew
  have marks {d} : (((s.markCell ⟨w.next, hn⟩).retireCell ⟨w.next, hn⟩).walkNext w).marked d = true ↔
      d = ⟨w.next, hn⟩ ∨ s.marked d = true := by
    simp [marked, markCell, retireCell, walkNext, mem_insertCell]
  refine ⟨h.ascending, h.named, fun _ => h.unready (.inr hd), fun hu => (by cases hd.symm.trans hu),
    fun _ => ⟨_, rfl, hn, ?_, fun c hc => ?_⟩, fun hf => ?_, fun c hc => ?_, fun c hc => ?_⟩
  · refine List.Perm.trans ?_ (take_succ_perm hn).symm
    exact ((insertCell_perm hnew.2).append_left _).trans (List.perm_middle.trans (hperm.cons _))
  · exact (mem_insertCell _ _ _).2 ((marks.1 hc).imp_right (hmarked c))
  · rcases hf with hf | ⟨hf, -⟩ <;> cases hd.symm.trans hf
  · rw [← Bool.not_eq_true, marks, not_or, Bool.not_eq_true]
    exact ⟨fun heq => hnew.1 (heq ▸ hc), h.free c hc⟩
  · exact marks.2 (((mem_insertCell _ _ _).1 hc).imp_right (h.retired c))

/-- At the end of the walk every cell is free or retired (R16, R17). -/
theorem walkFinished (h : s.PoolLaw) (hd : s.device = .formatting) (hw : s.walk = some w) (hend : w.next = 4096) :
    (s.finishWalk w).PoolLaw := by
  obtain ⟨x, hx, -, hperm, -⟩ := h.formatting hd
  cases hw.symm.trans hx
  refine of_complete rfl ⟨List.Pairwise.nil, by simp [pool, finishWalk, MessageTable.cellLists], ?_, h.free, h.retired⟩
  rw [hend, List.take_of_length_le (by simp)] at hperm
  simpa [Pool.cells, pool, finishWalk] using hperm

end Visit

/-- An UNFORMATTED part with nothing in it. -/
theorem of_cleared (hd : t.device = .unformatted) (hp : t.pool = ⟨[], [], [], []⟩) (hh : t.holdsNothing)
    (hk : t.tickPeriod = none) : t.PoolLaw := by
  obtain ⟨hf, hr, hm, hmsg⟩ := Pool.mk.inj hp
  refine ⟨by simp [hmsg], by simp [hmsg], fun _ => ⟨hmsg, hh, hk⟩, fun _ => ⟨hf, hr, hm⟩, by simp [hd],
    by simp [formatted, hd], by simp [hf], by simp [hr]⟩

/-- Every single change keeps the accounting of the pool. -/
theorem change (hc : Change s t) (h : s.PoolLaw) : t.PoolLaw := by
  cases hc with
  | halted => exact h.entersHalted
  | walkStopped hd =>
    refine ⟨h.ascending, h.named, fun hu => absurd hu (not_unready_of_halted hd), ?_, ?_, h.accounted, h.free,
      h.retired⟩
    · exact fun hu => by cases hd.symm.trans hu
    · exact fun hu => by cases hd.symm.trans hu
  | updateMessage m f hf =>
    rw [updateMessage_frame]
    exact h.of_cellLists rfl rfl rfl id rfl rfl rfl
      ((congrArg (·.messages.cellLists) (s.updateMessage_pool m f)).trans
        (MessageTable.update_cellLists h.ascending m hf))
  | markCell m c hd hcell => exact h.cellMarked hd hcell
  | allocate p n i m hd hcheck => exact h.allocated hd hcheck
  | putFresh p i q o m c hd =>
    exact h.updated hd (by rw [putFresh_frame]; exact hd) (by exact fun _ => rfl) (putFresh_pool ..)
  | putTaken p i q o m c f hd =>
    exact h.updated hd (by rw [putTaken_frame]; exact hd) (by exact fun _ => rfl) (putTaken_pool ..)
  | take p q i m e hd =>
    rw [takeEffect_frame]
    exact of_complete hd (h.complete (formatted_of_running hd))
  | release p i m hd => exact h.freed hd (by rw [releaseEffect_frame]; exact hd) (releaseEffect_pool ..)
  | drop p i m hd => exact h.freed hd (by rw [dropHolding_frame]; exact hd) (dropHolding_pool ..)
  | renew p i m c f hd => exact of_complete hd (h.complete (formatted_of_running hd))
  | endHolding p i m c f q hd =>
    have hrun : (s.endHolding p i m q).device = .running := by rw [endHolding_frame]; exact hd
    rcases ((s.removeTimeout p i).emptySlot p i).returnPath_pool q m with hp | ⟨g, hg, hp⟩
    · exact h.freed hd hrun hp
    · exact h.updated hd hrun hg hp
  | format p set period hd => exact h.formatStarted hd _ rfl
  | visitFree w hn hd hw => exact h.visitedFree hn hd hw
  | visitRetire w hn hd hw => exact h.visitedRetire hn hd hw
  | finishWalk w hd hw hend => exact h.walkFinished hd hw hend
  | deleteQueue q ha =>
    refine h.of_cellLists (by rw [deleteQueueEffect_frame]) (by rw [deleteQueueEffect_frame])
      (by rw [deleteQueueEffect_frame]) (fun hs p i => ?_) (by rw [deleteQueueEffect_frame])
      (by rw [deleteQueueEffect_frame]) (by rw [deleteQueueEffect_frame]) (by rw [deleteQueueEffect_frame])
    rw [deleteQueueEffect_slot, hs]
    rfl
  | walkHead q m delete js hd => exact h.freed hd (by rw [walkHead_frame]; exact hd) (walkHead_pool ..)
  | powerOn lines => exact of_cleared rfl rfl (fun r j => by simp [poweredOn, slot, Slot.cleared]) rfl
  | deviceReset => exact of_cleared rfl rfl (fun r j => by simp [deviceReset, poweredOn, slot, Slot.cleared]) rfl
  | raise => rw [raise_frame]; exact h.congr rfl rfl rfl rfl rfl rfl rfl rfl
  | modifyQueue => rw [modifyQueueEffect_frame]; exact h.congr rfl rfl rfl rfl rfl rfl rfl rfl
  | fencePort => rw [setAside_frame]; exact h.congr rfl rfl rfl rfl rfl rfl rfl rfl
  | resetPort => rw [portRestart_frame]; exact h.congr rfl rfl rfl rfl rfl rfl rfl rfl
  | lineAsserted => rw [portGone_frame]; exact h.congr rfl rfl rfl rfl rfl rfl rfl rfl
  | lineAssertedWithJob => rw [portGoneWithJob_frame]; exact h.congr rfl rfl rfl rfl rfl rfl rfl rfl
  | portJobDone => split <;> exact h.congr rfl rfl rfl rfl rfl rfl rfl rfl
  | _ => exact h.congr rfl rfl rfl rfl rfl rfl rfl rfl

end PoolLaw

end State

/-- Settles O6: each change moves cells from one place to another, and only a formatted part has messages. -/
theorem stepKeepsThePoolLaw : Obligations.StepKeepsThePoolLaw := by
  intro s t hs h
  exact step_keeps (P := State.PoolLaw) (fun _ _ hp => hp.congr rfl rfl rfl rfl rfl rfl rfl rfl) (fun _ _ hc => .change hc) hs h

end Sys2Proof.Machine
end

section
/-! Proofs/Places.lean: counting slots, and messages in the queues' lists. -/

namespace Sys2Proof.Machine

/-- Two sums that differ at one place. -/
theorem sum_eq_of_eq_off {ι : Type} [Fintype ι] [DecidableEq ι] {f g : ι → Nat} (a : ι) (h : ∀ x, x ≠ a → f x = g x) :
    (∑ x, f x) + g a = (∑ x, g x) + f a := by
  have rest : ∑ x ∈ Finset.univ.erase a, f x = ∑ x ∈ Finset.univ.erase a, g x :=
    Finset.sum_congr rfl fun x hx => h x (Finset.ne_of_mem_erase hx)
  have hf := Finset.add_sum_erase _ f (Finset.mem_univ a)
  have hg := Finset.add_sum_erase _ g (Finset.mem_univ a)
  omega

theorem countP_eq_sum {α : Type} (P : α → Bool) (l : List α) : l.countP P = (l.map (fun a => (P a).toNat)).sum := by
  induction l with
  | nil => rfl
  | cons a l ih => cases h : P a <;> simp [h, ih, Nat.add_comm]

/-- The slot holds message `m`. -/
def Slot.holds (m : CellNo) (x : Slot) : Bool := x.holding.message? == some m

namespace State

variable {s t : State} {P : Slot → Bool} {p : Port} {i : SlotNo}

/-! ## Slots -/

/-- The number of slots, over all ports, of which `P` holds. -/
def slotsWith (s : State) (P : Slot → Bool) : Nat := (Port.all.map (fun p => (s.slots p).countP P)).sum

theorem slotsWith_eq_sum (s : State) (P : Slot → Bool) :
    s.slotsWith P = ∑ x : Port × SlotNo, (P (s.slot x.1 x.2)).toNat := by
  rw [Fintype.sum_prod_type, Fin.sum_univ_def]
  refine congrArg List.sum (List.map_congr_left fun p _ => ?_)
  rw [Fin.sum_univ_def, slots_eq_map, countP_eq_sum, List.map_map]
  rfl

theorem slotsWith_congr (h : ∀ r j, P (t.slot r j) = P (s.slot r j)) : t.slotsWith P = s.slotsWith P := by
  simp only [slotsWith_eq_sum, h]

theorem slotsWith_eq_zero : s.slotsWith P = 0 ↔ ∀ r j, P (s.slot r j) = false := by
  simp [slotsWith_eq_sum]

theorem slotsWith_pos (h : P (s.slot p i) = true) : 0 < s.slotsWith P := by
  rw [Nat.pos_iff_ne_zero, Ne, slotsWith_eq_zero]
  intro hall
  cases h.symm.trans (hall p i)

/-- One slot is written. -/
theorem slotsWith_written (h : s.otherSlotsKept t p i) :
    t.slotsWith P + (P (s.slot p i)).toNat = s.slotsWith P + (P (t.slot p i)).toNat := by
  rw [slotsWith_eq_sum, slotsWith_eq_sum]
  refine sum_eq_of_eq_off (f := fun x : Port × SlotNo => (P (t.slot x.1 x.2)).toNat)
    (g := fun x => (P (s.slot x.1 x.2)).toNat) (p, i) fun x hx => ?_
  rw [h x.1 x.2]
  by_contra hne
  rw [not_or, not_not, not_not] at hne
  exact hx (Prod.ext hne.1 hne.2)

/-! ## Messages -/

/-- How often message `m` stands in the queues' lists. -/
def queuedCount (s : State) (m : CellNo) : Nat := ∑ q : QueueNo, (s.queue q).list.count m

theorem queuedCount_congr (h : ∀ q, (t.queue q).list = (s.queue q).list) (m : CellNo) :
    t.queuedCount m = s.queuedCount m := by
  simp only [queuedCount, h]

/-- One queue's list is changed. -/
theorem queuedCount_written {q : QueueNo} (h : ∀ x, x ≠ q → (t.queue x).list = (s.queue x).list) (m : CellNo) :
    t.queuedCount m + (s.queue q).list.count m = s.queuedCount m + (t.queue q).list.count m :=
  sum_eq_of_eq_off q fun x hx => congrArg (List.count m) (h x hx)

theorem queues_toList (s : State) : s.queues.toList = (List.finRange 64).map s.queue := by
  refine List.ext_getElem (by simp) fun n h _ => ?_
  simp [queue]

/-- A message is counted in the lists and in the slots. -/
theorem count_placedMessages (s : State) (m : CellNo) :
    s.placedMessages.count m = s.queuedCount m + s.slotsWith (Slot.holds m) := by
  have lists : (s.queues.toList.map (List.count m ∘ fun d => d.list)).sum = s.queuedCount m := by
    rw [queues_toList, List.map_map, queuedCount, Fin.sum_univ_def]
    rfl
  have held : (Port.all.map (List.count m ∘ fun p => (s.slots p).filterMap (fun x => x.holding.message?))).sum =
      s.slotsWith (Slot.holds m) := by
    refine congrArg List.sum (List.map_congr_left fun p _ => ?_)
    rw [Function.comp_apply, List.count_filterMap]
    rfl
  rw [placedMessages, List.count_append, List.count_flatMap, List.count_flatMap, lists, held]

end State

end Sys2Proof.Machine
end

section
/-! Proofs/PlaceLaw.lean: every single change leaves every message in exactly one place (R24). -/

namespace Sys2Proof.Machine

theorem Holding.orphaned_message? (q : QueueNo) (h : Holding) : (h.orphaned q).message? = h.message? := by
  cases h with
  | taken m c f => unfold Holding.orphaned; dsimp only; split <;> rfl
  | _ => rfl

/-! ## Lists after a link, an unlink and a return -/

theorem MessageTable.count_keys_drop {t : MessageTable} (ha : t.keys.Pairwise (· < ·)) {m : CellNo} (hm : m ∈ t.keys)
    (k : CellNo) : t.keys.count k = [m].count k + (t.drop m).keys.count k := by
  obtain ⟨r, hr⟩ := Option.ne_none_iff_exists'.1 (mt get?_eq_none.1 (not_not.2 hm))
  rw [← List.count_append]
  exact ((drop_perm ha hr).map (fun e => e.1)).count_eq k

namespace State

variable {s t : State} {p : Port} {i : SlotNo} {m : CellNo}

theorem linked_perm (s : State) (q : QueueNo) (e : ListEnd) (m : CellNo) :
    (s.linked q e m).Perm (m :: (s.queue q).list) := by
  cases e with
  | head => exact .refl _
  | tail => exact List.perm_append_singleton m _

/-- The end message stands beside the rest of the list. -/
theorem unlinked_perm {q : QueueNo} {e : ListEnd} (h : s.endMessage q e = some m) :
    (s.queue q).list.Perm (m :: s.unlinked q e) := by
  cases e with
  | head =>
    obtain ⟨l, hl⟩ := List.head?_eq_some_iff.1 h
    simp [unlinked, hl]
  | tail =>
    obtain ⟨l, hl⟩ := List.getLast?_eq_some_iff.1 h
    simp [unlinked, hl]

/-- The return path frees the message and keeps the lists, or links it into one list and keeps the others
(R110). -/
theorem returnPath_places (s : State) (q : QueueNo) (m : CellNo) :
    ((s.returnPath q m).pool = s.pool.freed m ∧ ∀ x, ((s.returnPath q m).queue x).list = (s.queue x).list) ∨
      ∃ (f : Message → Message) (x : QueueNo) (e : ListEnd), (∀ r, (f r).cells = r.cells) ∧
        (s.returnPath q m).pool = s.pool.updated m f ∧ ((s.returnPath q m).queue x).list = s.linked x e m ∧
        ∀ y, y ≠ x → ((s.returnPath q m).queue y).list = (s.queue y).list := by
  have lowered (x : QueueNo) : ((s.lowerOutstanding q).queue x).list = (s.queue x).list := by
    by_cases hx : x = q
    · rw [hx, lowerOutstanding, setQueue_queue_same]
    · rw [lowerOutstanding_queue_other _ _ _ hx]
  have raised (t : State) (x : QueueNo) : ((t.raiseRedelivered q).queue x).list = (t.queue x).list := by
    by_cases hx : x = q
    · rw [hx, raiseRedelivered, setQueue_queue_same]
    · rw [raiseRedelivered, setQueue_queue_other _ _ _ _ hx]
  have discarded (t : State) (x : QueueNo) : ((t.raiseDiscarded q).queue x).list = (t.queue x).list := by
    by_cases hx : x = q
    · rw [hx, raiseDiscarded, setQueue_queue_same]
    · rw [raiseDiscarded, setQueue_queue_other _ _ _ _ hx]
  have linkedTo (f : Message → Message) (x : QueueNo) (e : ListEnd) :
      ((((s.lowerOutstanding q).updateMessage m f).link x e m).pool = s.pool.updated m f) ∧
      ((((s.lowerOutstanding q).updateMessage m f).link x e m).queue x).list = s.linked x e m ∧
      ∀ y, y ≠ x → ((((s.lowerOutstanding q).updateMessage m f).link x e m).queue y).list = (s.queue y).list := by
    have hp := (s.lowerOutstanding q).updateMessage_pool m f
    have hq (y) : (((s.lowerOutstanding q).updateMessage m f).queue y).list = (s.queue y).list := by
      rw [updateMessage_queue, lowered]
    generalize (s.lowerOutstanding q).updateMessage m f = t at hp hq ⊢
    refine ⟨?_, ?_, fun y hy => ?_⟩
    · rw [link_frame]
      exact hp
    · rw [link_queue_same]
      simp only [linked, hq]
    · rw [link_queue_other _ _ _ _ _ hy, hq]
  unfold returnPath settleReturn
  dsimp only
  split
  · obtain ⟨hp, hsame, hother⟩ := linkedTo (fun r => { r with redelivery := r.redelivery + 1 }) q .head
    exact .inr ⟨_, q, .head, by exact fun _ => rfl, hp, (raised _ q).trans hsame,
      fun y hy => (raised _ y).trans (hother y hy)⟩
  · next x _ =>
    obtain ⟨hp, hsame, hother⟩ := linkedTo (fun r => { r with redelivery := 0, spilled := true }) x .tail
    exact .inr ⟨_, x, .tail, by exact fun _ => rfl, hp, hsame, hother⟩
  · refine .inl ⟨(s.lowerOutstanding q).freeMessage_pool m, fun x => ?_⟩
    rw [discarded, freeMessage_queue, lowered]

/-- A queue's descriptor is written, but for its list. -/
theorem setQueue_list {q : QueueNo} {d : Queue} (h : d.list = (s.queue q).list) (x : QueueNo) :
    ((s.setQueue q d).queue x).list = (s.queue x).list := by
  by_cases hx : x = q
  · rw [hx, setQueue_queue_same, h]
  · rw [setQueue_queue_other _ _ _ _ hx]

theorem setClaimant_list (s : State) (q x : QueueNo) (c : Option Port) :
    ((s.setClaimant q c).queue x).list = (s.queue x).list := setQueue_list (by rfl) x

theorem finishWalk_queue (s : State) (w : FormatWalk) (q : QueueNo) : (s.finishWalk w).queue q = .cleared := by
  simp [finishWalk, queue]

theorem poweredOn_queue (lines : PortSet) (q : QueueNo) : (poweredOn lines).queue q = .cleared := by
  simp [poweredOn, queue]

theorem deviceReset_queue (s : State) (q : QueueNo) : s.deviceReset.queue q = .cleared := poweredOn_queue 0 q

theorem portGone_list (s : State) (p : Port) (y : SettleState) (x : QueueNo) :
    ((s.portGone p y).queue x).list = (s.queue x).list := by
  rw [portGone_queue]
  split <;> rfl

theorem setAside_list (s : State) (p : Port) (x : QueueNo) : ((s.setAside p).queue x).list = (s.queue x).list := by
  rw [setAside_queue]
  split <;> rfl

theorem deleteQueueEffect_queue (s : State) (q x : QueueNo) :
    (deleteQueueEffect q s).queue x =
      if x = q then { s.queue q with outstanding := 0, claimant := none, state := .deleting } else s.queue x := by
  have withdrawn (t : State) (r : Option Port) : ((t.withdrawFrom r q).appendJob (.delete q)).queue x = t.queue x :=
    t.withdrawFrom_queue r q x
  unfold deleteQueueEffect
  rw [withdrawn]
  split
  · next h => rw [h, setQueue_queue_same]; rfl
  · next h => rw [setQueue_queue_other _ _ _ _ h]; rfl

theorem deleteQueueEffect_list (s : State) (q x : QueueNo) :
    ((deleteQueueEffect q s).queue x).list = (s.queue x).list := by
  rw [deleteQueueEffect_queue]
  split
  · next h => rw [h]
  · rfl

/-- The end of a walk finds the queue's list empty (R145). -/
theorem endWalk_list {q : QueueNo} (h : (s.queue q).list = []) (delete : Bool) (x : QueueNo) :
    ((s.endWalk q delete).queue x).list = (s.queue x).list := by
  refine setQueue_list ?_ x
  cases delete
  · rfl
  · exact h.symm

/-! ## The cells of a message -/

theorem messageCells_of_cellLists (h : t.messages.cellLists = s.messages.cellLists) (k : CellNo) :
    t.messageCells k = s.messageCells k := by
  rw [← pool_messageCells, ← pool_messageCells, Pool.messageCells, Pool.messageCells, MessageTable.get?_map_cells,
    MessageTable.get?_map_cells]
  exact congrArg (fun l => (List.lookup k l).getD []) h

theorem messageCells_of_freed (h : t.messages = s.messages.drop m) {k : CellNo} (hk : k ≠ m) :
    t.messageCells k = s.messageCells k := by
  simp only [messageCells, message, h, MessageTable.get?_drop, if_neg (Ne.symm hk)]

theorem messageCells_of_created {r : Message} (h : t.messages = s.messages.put m r) (k : CellNo) :
    t.messageCells k = if m = k then r.cells else s.messageCells k := by
  simp only [messageCells, message, h, MessageTable.get?_put]
  by_cases hk : m = k
  · rw [if_pos hk, if_pos hk]
  · rw [if_neg hk, if_neg hk]

/-! ## Slots that hold a message -/

theorem holds_toNat_of_message {x : Slot} (h : x.holding.message? = some m) (k : CellNo) :
    (x.holds k).toNat = [m].count k := by
  rw [Slot.holds, h, List.count_singleton]
  by_cases hk : m = k <;> simp [hk]

theorem holds_toNat_of_empty {x : Slot} (h : x.holding = .empty) (k : CellNo) : (x.holds k).toNat = 0 := by
  rw [Slot.holds, h]
  rfl

/-- The slot's cell count is the length of its message's cell list (R25). -/
def slotCounted (s : State) (r : Port) (j : SlotNo) : Prop :=
  ∀ k, (s.slot r j).holding.message? = some k → (s.slot r j).holding.cellCount = (s.messageCells k).length

theorem slotCounted_of_empty (h : (s.slot p i).holding = .empty) : s.slotCounted p i := fun k hk => by
  rw [h] at hk
  cases hk

namespace PlaceLaw

theorem count_eq (h : s.PlaceLaw) (k : CellNo) :
    s.queuedCount k + s.slotsWith (Slot.holds k) = s.messages.keys.count k := by
  rw [← count_placedMessages]
  exact h.placed.count_eq k

theorem of_counts (hcount : ∀ k, t.queuedCount k + t.slotsWith (Slot.holds k) = t.messages.keys.count k)
    (hslots : ∀ r j, t.slotCounted r j) : t.PlaceLaw where
  placed := List.perm_iff_count.2 fun k => (t.count_placedMessages k).trans (hcount k)
  counted := hslots

/-- A held message is in the table. -/
theorem mem_keys_of_held (h : s.PlaceLaw) {k : CellNo} (hk : (s.slot p i).holding.message? = some k) :
    k ∈ s.messages.keys := by
  have hpos := slotsWith_pos (s := s) (P := Slot.holds k) (p := p) (i := i) (by rw [Slot.holds, hk]; exact beq_self_eq_true _)
  have := h.count_eq k
  exact List.count_pos_iff.1 (by omega)

/-- What becomes of the slots that are not written, where their messages keep their cells. -/
theorem slotCounted_other (h : s.PlaceLaw) (ho : s.otherSlotsKept t p i) {r : Port} {j : SlotNo} (hrj : r ≠ p ∨ j ≠ i)
    (hc : ∀ k, (s.slot r j).holding.message? = some k → t.messageCells k = s.messageCells k) : t.slotCounted r j := by
  intro k hk
  rw [ho r j hrj] at hk ⊢
  rw [hc k hk]
  exact h.counted r j k hk

/-- One slot is written, and its cell count is right. -/
theorem slotsCounted (h : s.PlaceLaw) (ho : s.otherSlotsKept t p i) (hs : t.slotCounted p i)
    (hc : ∀ r j k, r ≠ p ∨ j ≠ i → (s.slot r j).holding.message? = some k → t.messageCells k = s.messageCells k) :
    ∀ r j, t.slotCounted r j := by
  intro r j
  by_cases hrj : r = p ∧ j = i
  · obtain ⟨rfl, rfl⟩ := hrj
    exact hs
  · exact h.slotCounted_other ho (not_and_or.1 hrj) (hc r j · (not_and_or.1 hrj))

/-- No message moves. -/
theorem congr (h : s.PlaceLaw) (hq : ∀ q, (t.queue q).list = (s.queue q).list)
    (hm : ∀ r j, (t.slot r j).holding.message? = (s.slot r j).holding.message?)
    (hn : ∀ r j, (t.slot r j).holding.cellCount = (s.slot r j).holding.cellCount)
    (hc : t.messages.cellLists = s.messages.cellLists) : t.PlaceLaw := by
  refine of_counts (fun k => ?_) fun r j k hk => ?_
  · rw [queuedCount_congr hq, slotsWith_congr (s := s) fun r j => by simp only [Slot.holds, hm],
      MessageTable.keys_eq_map_cellLists, hc, ← MessageTable.keys_eq_map_cellLists]
    exact h.count_eq k
  · rw [hm] at hk
    rw [hn, messageCells_of_cellLists hc]
    exact h.counted r j k hk

/-- No slot changes. -/
theorem congr_holdings (h : s.PlaceLaw) (hh : t.holdings = s.holdings) (hq : ∀ q, (t.queue q).list = (s.queue q).list)
    (hc : t.messages.cellLists = s.messages.cellLists) : t.PlaceLaw :=
  h.congr hq (fun r j => by rw [slot_congr hh]) (fun r j => by rw [slot_congr hh]) hc

/-- A part without messages. -/
theorem of_cleared (hq : ∀ q, (t.queue q).list = []) (hh : ∀ r j, (t.slot r j).holding = .empty)
    (hm : t.messages = []) : t.PlaceLaw := by
  refine of_counts (fun k => ?_) fun r j => slotCounted_of_empty (hh r j)
  rw [slotsWith_eq_zero.2 fun r j => by rw [Slot.holds, hh]; rfl, hm]
  simp [queuedCount, hq, MessageTable.keys]

/-- A held message is put into a queue's list (R46). -/
theorem putDown (h : s.PlaceLaw) (hm : (s.slot p i).holding.message? = some m)
    (hh : t.holdings = (s.emptySlot p i).holdings) (hc : t.messages.cellLists = s.messages.cellLists) {q : QueueNo}
    {e : ListEnd} (hq : (t.queue q).list = s.linked q e m) (ho : ∀ x, x ≠ q → (t.queue x).list = (s.queue x).list) :
    t.PlaceLaw := by
  obtain ⟨hslot, hothers⟩ := slotEmptied_of_holdings hh
  refine of_counts (fun k => ?_) (h.slotsCounted hothers (slotCounted_of_empty (by rw [hslot]))
    fun r j k _ _ => messageCells_of_cellLists hc k)
  have hlists := queuedCount_written ho k
  have hslots := slotsWith_written (P := Slot.holds k) hothers
  rw [hq, (s.linked_perm q e m).count_eq k, ← List.singleton_append, List.count_append] at hlists
  rw [holds_toNat_of_message hm, holds_toNat_of_empty (by rw [hslot])] at hslots
  rw [MessageTable.keys_eq_map_cellLists, hc, ← MessageTable.keys_eq_map_cellLists, ← h.count_eq k]
  omega

/-- A message at an end of a queue's list is taken into a slot (R85). -/
theorem takenUp (h : s.PlaceLaw) {q : QueueNo} {e : ListEnd} (hm : s.endMessage q e = some m)
    (hi : (s.slot p i).holding = .empty) {x : Slot} (hx : x.holding.message? = some m)
    (hn : x.holding.cellCount = (s.messageCells m).length) (hh : t.holdings = (s.setSlot p i x).holdings)
    (hc : t.messages = s.messages) (hq : (t.queue q).list = s.unlinked q e)
    (ho : ∀ x, x ≠ q → (t.queue x).list = (s.queue x).list) : t.PlaceLaw := by
  have hslot := slot_of_holdings hh
  have hothers := otherSlotsKept_of_holdings hh
  have hcells (k : CellNo) : t.messageCells k = s.messageCells k := messageCells_congr hc k
  refine of_counts (fun k => ?_) (h.slotsCounted hothers (fun k hk => ?_) fun r j k _ _ => hcells k)
  · have hlists := queuedCount_written ho k
    have hslots := slotsWith_written (P := Slot.holds k) hothers
    have hperm := (unlinked_perm hm).count_eq k
    rw [← List.singleton_append, List.count_append] at hperm
    rw [hq] at hlists
    rw [hslot, holds_toNat_of_message hx, holds_toNat_of_empty hi] at hslots
    rw [hc, ← h.count_eq k]
    omega
  · rw [hslot, hx] at hk
    cases hk
    rw [hslot, hn, hcells]

/-- A held message is freed (R9). -/
theorem freedFromSlot (h : s.PlaceLaw) (hpool : s.PoolLaw) (hm : (s.slot p i).holding.message? = some m)
    (hh : t.holdings = (s.emptySlot p i).holdings) (hp : t.messages = s.messages.drop m)
    (hq : ∀ x, (t.queue x).list = (s.queue x).list) : t.PlaceLaw := by
  obtain ⟨hslot, hothers⟩ := slotEmptied_of_holdings hh
  have hkeys := MessageTable.count_keys_drop hpool.ascending (h.mem_keys_of_held hm)
  have hcount (k : CellNo) : t.queuedCount k + t.slotsWith (Slot.holds k) = t.messages.keys.count k := by
    have hslots := slotsWith_written (P := Slot.holds k) hothers
    rw [holds_toNat_of_message hm, holds_toNat_of_empty (by rw [hslot])] at hslots
    have hk := hkeys k
    have hs := h.count_eq k
    rw [queuedCount_congr hq, hp]
    omega
  refine of_counts hcount (h.slotsCounted hothers (slotCounted_of_empty (by rw [hslot])) fun r j k hrj hk => ?_)
  refine messageCells_of_freed hp fun hkm => ?_
  have hpos := slotsWith_pos (s := t) (P := Slot.holds k) (p := r) (i := j)
    (by rw [Slot.holds, hothers r j hrj, hk]; exact beq_self_eq_true _)
  have hgone : k ∉ t.messages.keys := by
    rw [← MessageTable.get?_eq_none, hp, MessageTable.get?_drop, if_pos hkm.symm]
  have := hcount k
  rw [List.count_eq_zero.2 hgone] at this
  omega

/-- The head message of a queue's list is freed (R145). -/
theorem freedFromQueue (h : s.PlaceLaw) (hpool : s.PoolLaw) {q : QueueNo} (hm : (s.queue q).head? = some m)
    (hh : t.holdings = s.holdings) (hp : t.messages = s.messages.drop m) (hq : (t.queue q).list = (s.queue q).list.tail)
    (ho : ∀ x, x ≠ q → (t.queue x).list = (s.queue x).list) : t.PlaceLaw := by
  have hslot := slot_congr hh
  have hperm (k : CellNo) := (unlinked_perm (s := s) (q := q) (e := .head) hm).count_eq k
  have hmem : m ∈ s.messages.keys := by
    have hhead : m ∈ (s.queue q).list := List.mem_of_mem_head? hm
    have hle : (s.queue q).list.count m ≤ s.queuedCount m :=
      Finset.single_le_sum (f := fun x => (s.queue x).list.count m) (fun _ _ => Nat.zero_le _) (Finset.mem_univ q)
    have := h.count_eq m
    have := List.count_pos_iff.2 hhead
    exact List.count_pos_iff.1 (by omega)
  have hkeys := MessageTable.count_keys_drop hpool.ascending hmem
  have hcount (k : CellNo) : t.queuedCount k + t.slotsWith (Slot.holds k) = t.messages.keys.count k := by
    have hlists := queuedCount_written ho k
    have hk := hkeys k
    have hl := hperm k
    rw [← List.singleton_append, List.count_append, unlinked] at hl
    rw [hq] at hlists
    have hs := h.count_eq k
    rw [slotsWith_congr (s := s) fun r j => by rw [hslot], hp]
    omega
  refine of_counts hcount fun r j k hk => ?_
  have hpos := slotsWith_pos (s := t) (P := Slot.holds k) (p := r) (i := j)
    (by rw [Slot.holds, hk]; exact beq_self_eq_true _)
  rw [hslot] at hk ⊢
  rw [h.counted r j k hk, messageCells_of_freed hp fun hkm => ?_]
  have hgone : k ∉ t.messages.keys := by
    rw [← MessageTable.get?_eq_none, hp, MessageTable.get?_drop, if_pos hkm.symm]
  have := hcount k
  rw [List.count_eq_zero.2 hgone] at this
  omega

/-- A new message is held by the slot that received it (R79). -/
theorem created (h : s.PlaceLaw) (hnew : m ∉ s.messages.keys) {r : Message} (hi : (s.slot p i).holding = .empty) {x : Slot}
    (hx : x.holding.message? = some m) (hn : x.holding.cellCount = r.cells.length)
    (hh : t.holdings = (s.setSlot p i x).holdings) (hp : t.messages = s.messages.put m r)
    (hq : ∀ x, (t.queue x).list = (s.queue x).list) : t.PlaceLaw := by
  have hslot := slot_of_holdings hh
  have hothers := otherSlotsKept_of_holdings hh
  refine of_counts (fun k => ?_) (h.slotsCounted hothers (fun k hk => ?_) fun r j k _ hk => ?_)
  · have hslots := slotsWith_written (P := Slot.holds k) hothers
    rw [hslot, holds_toNat_of_message hx, holds_toNat_of_empty hi] at hslots
    have hk := (MessageTable.keys_put_perm hnew r).count_eq k
    rw [← List.singleton_append, List.count_append] at hk
    have := h.count_eq k
    rw [queuedCount_congr hq, hp]
    omega
  · rw [hslot, hx] at hk
    cases hk
    rw [hslot, hn, messageCells_of_created hp, if_pos rfl]
  · refine (messageCells_of_created hp k).trans (if_neg fun hmk => hnew ?_)
    rw [hmk]
    exact h.mem_keys_of_held hk

/-- The return path's end of a holding (R93, R108, R143). -/
theorem returned (h : s.PlaceLaw) (hpool : s.PoolLaw) (hm : (s.slot p i).holding.message? = some m) (q : QueueNo) :
    (s.endHolding p i m q).PlaceLaw := by
  have hh := s.endHolding_holdings p i m q
  rcases ((s.removeTimeout p i).emptySlot p i).returnPath_places q m with
    ⟨hp, hq⟩ | ⟨f, x, e, hf, hp, hsame, hother⟩
  · exact h.freedFromSlot hpool hm hh (congrArg Pool.messages hp) hq
  · refine h.putDown hm hh ?_ (q := x) (e := e) hsame hother
    exact (congrArg (fun x => x.messages.cellLists) hp).trans (MessageTable.update_cellLists hpool.ascending m hf)

/-- Every single change leaves every message in exactly one place. -/
theorem change (hc : Change s t) (hpool : s.PoolLaw) (h : s.PlaceLaw) : t.PlaceLaw := by
  have updated (m : CellNo) {f : Message → Message} (hf : ∀ r, (f r).cells = r.cells) {t : State}
      (hp : t.pool = s.pool.updated m f) : t.messages.cellLists = s.messages.cellLists :=
    (congrArg (fun x => x.messages.cellLists) hp).trans (MessageTable.update_cellLists hpool.ascending m hf)
  cases hc with
  | updateMessage m f hf =>
    exact h.congr_holdings (by rw [updateMessage_frame]) (fun _ => by rw [updateMessage_queue])
      (updated m hf (s.updateMessage_pool m f))
  | allocate p n i m hd hcheck =>
    obtain ⟨-, -, hempty, -, hlen, hm⟩ := allocateCheck_eq_ok hcheck
    have hnew := (hpool.complete (formatted_of_running hd)).not_mem_keys (List.mem_of_mem_head? hm)
    refine h.created (x := { s.slot p i with holding := .fresh m n }) hnew hempty rfl ?_ rfl rfl (fun _ => rfl)
    exact (List.length_take_of_le hlen).symm
  | putFresh p i q o m c hd ha hl hh =>
    refine h.putDown (e := o.listEnd) (q := q) (by rw [hh]; rfl) (putFresh_holdings ..)
      (updated m (by exact fun _ => rfl) (putFresh_pool ..)) ?_ fun x hx => ?_
    · rw [putFresh_queue, if_pos rfl]
    · rw [putFresh_queue, if_neg hx]
  | putTaken p i q o m c f hd ha hl hh =>
    have lowered (x : QueueNo) : (s.lowered f.source x).list = (s.queue x).list := by
      unfold lowered
      split <;> rfl
    refine h.putDown (e := o.listEnd) (q := q) (by rw [hh]; rfl) (putTaken_holdings ..)
      (updated m (by exact fun _ => rfl) (putTaken_pool ..)) ?_ fun x hx => ?_
    · rw [putTaken_queue, if_pos rfl]
    · rw [putTaken_queue, if_neg hx, lowered]
  | take p q i m e hd ha hm hi =>
    refine h.takenUp hm hi (by exact rfl) (by exact rfl) (takeEffect_holdings ..) (by rw [takeEffect_frame]) (q := q) ?_
      fun x hx => ?_
    · rw [takeEffect_queue, if_pos rfl]
    · rw [takeEffect_queue, if_neg hx]
  | release p i m hd hm =>
    refine h.freedFromSlot hpool hm (releaseEffect_holdings ..) (congrArg Pool.messages (releaseEffect_pool ..))
      fun x => ?_
    rw [releaseEffect_queue, lowered]
    split <;> rfl
  | drop p i m hd hm =>
    exact h.freedFromSlot hpool hm (dropHolding_holdings ..) (congrArg Pool.messages (dropHolding_pool ..))
      fun x => by rw [dropHolding_queue]
  | renew p i m c f hd hh =>
    have hslot (r : Port) (j : SlotNo) :
        ((renewEffect p i m c f (s.tick + f.holdTime.setWidth 32) s).slot r j).holding.message? =
            (s.slot r j).holding.message? ∧
          ((renewEffect p i m c f (s.tick + f.holdTime.setWidth 32) s).slot r j).holding.cellCount =
            (s.slot r j).holding.cellCount := by
      by_cases hrj : r = p ∧ j = i
      · obtain ⟨rfl, rfl⟩ := hrj
        rw [renewEffect_slot, hh]
        exact ⟨rfl, rfl⟩
      · rw [renewEffect_otherSlotsKept s p i m c f _ r j (not_and_or.1 hrj)]
        exact ⟨rfl, rfl⟩
    exact h.congr (fun _ => rfl) (fun r j => (hslot r j).1) (fun r j => (hslot r j).2) rfl
  | endHolding p i m c f q hd hh => exact h.returned hpool (by rw [hh]; rfl) q
  | claim p o q => exact h.congr_holdings rfl (fun x => setClaimant_list _ q x _) rfl
  | unclaim q => exact h.congr_holdings rfl (fun x => setClaimant_list _ q x _) rfl
  | finishWalk =>
    exact of_cleared (fun q => by rw [finishWalk_queue]; rfl) (fun r j => by simp [finishWalk, slot, Slot.cleared]) rfl
  | defineQueue q x => exact h.congr_holdings rfl (setQueue_list rfl) rfl
  | modifyQueue q x =>
    exact h.congr_holdings (by rw [modifyQueueEffect_frame]) (fun y => by
      rw [modifyQueueEffect, withdrawFrom_queue]
      exact setQueue_list (by exact rfl) y) (by rw [modifyQueueEffect_frame])
  | purgeQueue q => exact h.congr_holdings rfl (fun y => setQueue_list (s := s) (by rfl) y) rfl
  | deleteQueue q =>
    refine h.congr (s.deleteQueueEffect_list q) (fun r j => ?_) (fun r j => ?_) (by rw [deleteQueueEffect_frame])
    · rw [deleteQueueEffect_slot]
      exact Holding.orphaned_message? q _
    · rw [deleteQueueEffect_slot]
      exact Holding.orphaned_cellCount q _
  | fencePort p r o =>
    exact h.congr_holdings (by rw [setAside_frame]; rfl) (setAside_list _ r) (by rw [setAside_frame]; rfl)
  | resetPort p o =>
    exact h.congr_holdings (by rw [portRestart_frame]; rfl) (fun x => by
      rw [portRestart_frame]
      exact portGone_list _ p .attached x) (by rw [portRestart_frame]; rfl)
  | lineAsserted p y =>
    exact h.congr_holdings (by rw [portGone_frame]; rfl) (portGone_list _ p y) (by rw [portGone_frame]; rfl)
  | lineAssertedWithJob p =>
    exact h.congr_holdings (by rw [portGoneWithJob_frame]; rfl) (fun x => by
      rw [appendPortJob_queue]
      exact portGone_list _ p .attached x) (by rw [portGoneWithJob_frame]; rfl)
  | walkHead q m delete js hd hj hm =>
    refine h.freedFromQueue hpool hm (by rw [walkHead_frame]) (congrArg Pool.messages (walkHead_pool ..)) ?_
      fun x hx => ?_
    · rw [walkHead_queue, if_pos rfl]
    · rw [walkHead_queue, if_neg hx]
  | endWalk q delete js hd hj hl => exact h.congr_holdings rfl (endWalk_list hl delete) rfl
  | powerOn lines =>
    exact of_cleared (fun q => congrArg Queue.list (poweredOn_queue lines q))
      (fun r j => by simp [poweredOn, slot, Slot.cleared]) rfl
  | deviceReset =>
    exact of_cleared (fun q => by rw [deviceReset_queue]; rfl)
      (fun r j => by simp [deviceReset, poweredOn, slot, Slot.cleared]) rfl
  | raise => rw [raise_frame]; exact h.congr_holdings rfl (fun _ => rfl) rfl
  | portJobDone => split <;> exact h.congr_holdings rfl (fun _ => rfl) rfl
  | _ => exact h.congr_holdings rfl (fun _ => rfl) rfl

end PlaceLaw

end State

/-- Settles O7: a change puts a message down where it takes it up, creates it in a slot or frees it from one place;
the pool law, kept beside, says which numbers name a message. -/
theorem stepKeepsEveryMessageInOnePlace : Obligations.StepKeepsEveryMessageInOnePlace := by
  intro s t hpool hs h
  refine (step_keeps (P := fun s => s.PoolLaw ∧ s.PlaceLaw) (fun _ _ hp => ⟨?_, ?_⟩)
    (fun _ _ hc hp => ⟨.change hc hp.1, .change hc hp.1 hp.2⟩) ⟨hpool, hs⟩ h).2
  · exact hp.1.congr rfl rfl rfl rfl rfl rfl rfl rfl
  · exact hp.2.congr_holdings rfl (fun _ => rfl) rfl

end Sys2Proof.Machine
end

section
/-! Proofs/NoticeUnits.lean: the laws of one notice unit under every change of it (R119, R123, R130), and what a
change of a queue's count raises. -/

namespace Sys2Proof.Machine

/-! ## One notice unit -/

theorem mergedNotice_key (set : List Notice) (n : Notice) :
    (mergedNotice set n).kind = n.kind ∧ (mergedNotice set n).source = n.source ∧
      (mergedNotice set n).level = n.level := by
  unfold mergedNotice
  split <;> exact ⟨rfl, rfl, rfl⟩

/-- A merge keeps the raise's own reasons (R121). -/
theorem mergedNotice_reasons {set : List Notice} {n : Notice} (h : n.reasons ≠ 0) :
    (mergedNotice set n).reasons ≠ 0 := by
  unfold mergedNotice
  split
  · exact h
  · exact fun h0 => h (BitVec.or_eq_zero_iff.1 h0).2

theorem insertNotice_perm (n : Notice) (set : List Notice) : (insertNotice n set).Perm (n :: set) := by
  induction set with
  | nil => exact .refl _
  | cons x rest ih =>
    unfold insertNotice
    split
    · exact .refl _
    · exact (ih.cons x).trans (.swap _ _ _)

theorem firstNotice_mem {set : List Notice} {n : Notice} (h : firstNotice set = some n) : n ∈ set := by
  induction set generalizing n with
  | nil => cases h
  | cons x rest ih =>
    unfold firstNotice at h
    split at h
    · cases h
      exact .head _
    · next y hy =>
      split at h
      · cases h
        exact .tail _ (ih hy)
      · cases h
        exact .head _

namespace NoticeUnit

variable {u : NoticeUnit} {n : Notice}

/-- The laws of R119 and R123 for one unit. -/
def Sound (u : NoticeUnit) : Prop := u.StackLaw ∧ u.PendingLaw

theorem cleared_sound : cleared.Sound := by simp [Sound, StackLaw, PendingLaw, cleared]

/-- Eight levels leave room for eight entries on a stack that rises in urgency (R123). -/
theorem length_le_of_pairwise {l : List Notice} (h : l.Pairwise (fun a b => a.level.toNat < b.level.toNat)) :
    l.length ≤ 8 := by
  have distinct : (l.map (fun a => a.level.toFin)).Nodup :=
    List.pairwise_map.2 (h.imp fun hlt heq => absurd (congrArg Fin.val heq) (Nat.ne_of_lt hlt))
  simpa using distinct.length_le_card

theorem StackLaw.tail {top : Notice} {rest : List Notice} (h : u.StackLaw) (ha : u.active = top :: rest) :
    StackLaw { u with active := rest } := by
  obtain ⟨hrises, -⟩ := h
  rw [ha] at hrises
  exact ⟨(List.pairwise_cons.1 hrises).2, length_le_of_pairwise (List.pairwise_cons.1 hrises).2⟩

/-- An entry is pushed only above less urgent ones (R124). -/
theorem StackLaw.push (h : u.StackLaw) (hn : u.admits n = true) (set : List Notice) :
    StackLaw { pendingSet := set, active := n :: u.active } := by
  obtain ⟨hrises, -⟩ := h
  have rises : (n :: u.active).Pairwise (fun a b => a.level.toNat < b.level.toNat) := by
    refine List.pairwise_cons.2 ⟨fun b hb => ?_, hrises⟩
    unfold admits at hn
    split at hn
    · next ha => simp [ha] at hb
    · next top rest ha =>
      rw [ha] at hb hrises
      have htop := of_decide_eq_true hn
      rcases List.mem_cons.1 hb with rfl | hb
      · exact htop
      · exact htop.trans ((List.pairwise_cons.1 hrises).1 b hb)
  exact ⟨rises, length_le_of_pairwise rises⟩

theorem PendingLaw.without (h : u.PendingLaw) (n : Notice) (active : List Notice) :
    PendingLaw { pendingSet := withoutKey n u.pendingSet, active := active } :=
  ⟨h.1.filter _, fun x hx => h.2 x ((mem_withoutKey _ _ _).1 hx).1⟩

theorem Sound.taking (h : u.Sound) (hn : n.reasons ≠ 0) : (u.taking n).Sound := by
  obtain ⟨hstack, hdistinct, hreasons⟩ := h
  obtain ⟨hkind, hsource, -⟩ := mergedNotice_key u.pendingSet n
  refine ⟨hstack, ?_, fun x hx => ?_⟩
  · have swap {a b : Notice} (hab : a.sameKey b = false) : b.sameKey a = false := (b.sameKey_comm a).trans hab
    refine ((insertNotice_perm _ _).pairwise_iff swap).2 (List.pairwise_cons.2 ⟨fun x hx => ?_, hdistinct.filter _⟩)
    rw [Notice.sameKey_comm, ← ((mem_withoutKey _ _ _).1 hx).2]
    simp only [Notice.sameKey, hkind, hsource]
  · rcases (mem_taking u n x).1 hx with ⟨hx, -⟩ | rfl
    · exact hreasons x hx
    · exact mergedNotice_reasons hn

theorem Sound.afterRead (h : u.Sound) : u.afterRead.Sound := by
  unfold NoticeUnit.afterRead
  split
  · exact h
  · next n hn =>
    unfold eligible at hn
    split at hn
    · cases hn
    · split at hn
      · next hadmits =>
        cases hn
        exact ⟨h.1.push hadmits _, h.2.without _ _⟩
      · cases hn

theorem Sound.withdrawn (h : u.Sound) (q : QueueNo) : (u.withdrawn q).Sound := ⟨h.1, h.2.without _ _⟩

theorem Sound.pop {top : Notice} {rest : List Notice} (h : u.Sound) (ha : u.active = top :: rest) :
    Sound { u with active := rest } := ⟨h.1.tail ha, h.2⟩

/-- Nothing is read off or withdrawn from a unit held empty (R130). -/
theorem afterRead_cleared : cleared.afterRead = cleared := (rfl)

theorem withdrawn_cleared (q : QueueNo) : cleared.withdrawn q = cleared := (rfl)

end NoticeUnit

/-! ## What a port receives of a change of a queued count -/

namespace State

variable {s t : State} {p : Port}

/-- Port `r`'s unit is as it was, or has taken a record that may be raised to the ATTACHED port. -/
def receives (s : State) (r : Port) (u : NoticeUnit) : Prop :=
  u = s.noticeUnit r ∨
    ((s.port r).state = .attached ∧ ∃ n, s.mayRaise r n ∧ u = (s.noticeUnit r).taking n)

theorem receives_self (s : State) (r : Port) : s.receives r (s.noticeUnit r) := .inl rfl

theorem receives_raise {n : Notice} (h : s.mayRaise p n) (r : Port) : s.receives r ((s.raise p n).noticeUnit r) := by
  by_cases ha : (s.port p).state = .attached
  · by_cases hr : r = p
    · subst hr
      exact .inr ⟨ha, n, h, s.raise_noticeUnit_of_attached r n ha⟩
    · exact .inl (s.raise_noticeUnit_other p r n hr)
  · rw [s.raise_of_detached p n ha]
    exact s.receives_self r

theorem receives_afterCrossings (s : State) (q : QueueNo) (new : Nat) (r : Port) :
    s.receives r (s.afterCrossings q (s.crossingsTo q new) r) := by
  unfold afterCrossings
  dsimp only
  split
  · next h =>
    obtain ⟨htarget, hfound, hattached⟩ := h
    refine .inr ⟨hattached, _, ⟨hfound, fun _ => ⟨q, rfl, ?_, htarget, rfl⟩⟩, rfl⟩
    by_contra hev
    rw [crossingsTo, if_neg hev] at hfound
    exact hfound (BitVec.zero_and)
  · exact s.receives_self r

/-- What the return path raises is raised by a queue that reports (R112, R114). -/
theorem receives_returnPath (s : State) (q : QueueNo) (m : CellNo) (r : Port) :
    s.receives r ((s.returnPath q m).noticeUnit r) := by
  have same (x : QueueNo) : ((s.lowerOutstanding q).queue x).state = (s.queue x).state ∧
      ((s.lowerOutstanding q).queue x).list = (s.queue x).list ∧
      ((s.lowerOutstanding q).queue x).settings = (s.queue x).settings ∧
      ((s.lowerOutstanding q).queue x).lowArmed = (s.queue x).lowArmed := by
    by_cases hx : x = q
    · subst hx
      rw [lowerOutstanding_queue_same]
      exact ⟨rfl, rfl, rfl, rfl⟩
    · rw [lowerOutstanding_queue_other _ _ _ hx]
      exact ⟨rfl, rfl, rfl, rfl⟩
  have linkedTo (f : Message → Message) (x : QueueNo) (e : ListEnd) :
      s.receives r ((((s.lowerOutstanding q).updateMessage m f).link x e m).noticeUnit r) := by
    have hq (y) : ((s.lowerOutstanding q).updateMessage m f).queue y = (s.lowerOutstanding q).queue y :=
      updateMessage_queue _ _ _ y
    have hports : ((s.lowerOutstanding q).updateMessage m f).ports = s.ports := updateMessage_ports _ _ _
    have hnotices : ((s.lowerOutstanding q).updateMessage m f).notices = s.notices := updateMessage_notices _ _ _
    rw [link_noticeUnit]
    generalize (s.lowerOutstanding q).updateMessage m f = t at hq hports hnotices ⊢
    obtain ⟨hstate, hlist, hsettings, harmed⟩ := same x
    rw [← hq] at hstate hlist hsettings harmed
    have hcross := (crossingsTo_congr (s := s) (t := t) ((t.queue x).queued + 1) hstate hlist hsettings harmed).1
    rw [hcross, afterCrossings_congr _ r hsettings hports hnotices]
    exact s.receives_afterCrossings x _ r
  unfold returnPath settleReturn
  dsimp only
  split
  · rw [raiseRedelivered, setQueue_noticeUnit]
    exact linkedTo _ q .head
  · next x _ => exact linkedTo _ x .tail
  · rw [raiseDiscarded, setQueue_noticeUnit, freeMessage_noticeUnit]
    exact s.receives_self r

theorem receives_sound (h : (s.noticeUnit p).Sound) {u : NoticeUnit} (hu : s.receives p u) : u.Sound := by
  rcases hu with rfl | ⟨-, n, ⟨hreasons, -⟩, rfl⟩
  · exact h
  · exact h.taking hreasons

end State

end Sys2Proof.Machine
end

section
/-! Proofs/PortLaw.lean: every single change keeps the laws of the ports (R52, R119, R123, R130, R134, R149). -/

namespace Sys2Proof.Machine

/-- A PORT job's port and end state. -/
def Job.portJob? : Job → Option (Port × SettleState)
  | .port p e => some (p, e)
  | .purge _ => none
  | .delete _ => none

namespace State

variable {s t : State} {p : Port}

/-! ## PORT jobs -/

/-- The PORT jobs of the reclaim list. -/
def portJobs (s : State) : List (Port × SettleState) := s.jobs.filterMap Job.portJob?

theorem mem_portJobs {e : SettleState} : (p, e) ∈ s.portJobs ↔ Job.port p e ∈ s.jobs := by
  rw [portJobs, List.mem_filterMap]
  constructor
  · rintro ⟨j, hj, hp⟩
    cases j with
    | port => cases hp; exact hj
    | purge => cases hp
    | delete => cases hp
  · exact fun h => ⟨_, h, rfl⟩

theorem filterMap_port? (s : State) : s.jobs.filterMap Job.port? = s.portJobs.map Prod.fst := by
  rw [portJobs, List.map_filterMap]
  congr 1
  funext j
  cases j <;> rfl

theorem hasPortJob_iff_portJobs : s.hasPortJob p = true ↔ ∃ e, (p, e) ∈ s.portJobs := by
  simp only [hasPortJob_eq_true, mem_portJobs]

theorem portJobs_append {js : List Job} (h : t.jobs = s.jobs ++ js) :
    t.portJobs = s.portJobs ++ js.filterMap Job.portJob? := by
  rw [portJobs, h, List.filterMap_append]
  rfl

/-! ## The laws of one port -/

/-- The laws that speak of one port alone. -/
structure PortOk (s : State) (p : Port) : Prop where
  line : (s.interface p).line = true ↔ (s.port p).state = .down
  waiting : ∀ r, (s.interface p).slot.status = .waiting r → (s.port p).state = .attached
  claims : ∀ q, (s.queue q).claimant = some p → (s.port p).state = .attached
  away : (s.port p).state ≠ .attached → s.noticeUnit p = .cleared
  sound : (s.noticeUnit p).Sound
  reclaiming : (s.port p).state = .reclaiming ↔ (s.port p).state ≠ .down ∧ ∃ e, (p, e) ∈ s.portJobs
  endState : ∀ e, (p, e) ∈ s.portJobs → (s.port p).settle = e
  settled : ((s.port p).state = .attached → (s.port p).settle = .attached) ∧
    ((s.port p).state = .fenced → (s.port p).settle = .fenced)

theorem PortLaw.ok (h : s.PortLaw) (p : Port) : s.PortOk p where
  line := h.line p
  waiting := h.waiting p
  claims := fun q => h.claims q p
  away := h.away p
  sound := ⟨h.stack p, h.pending p⟩
  reclaiming := by
    rw [← hasPortJob_iff_portJobs]
    exact h.reclaiming p
  endState := fun e he => h.endState p e (mem_portJobs.1 he)
  settled := h.settled p

theorem PortLaw.nodup (h : s.PortLaw) : (s.portJobs.map Prod.fst).Nodup := by
  rw [← filterMap_port?]
  exact h.once

/-- The laws of each port, and those of the part as a whole. -/
theorem PortLaw.of_ok (ok : ∀ p, t.PortOk p) (once : (t.portJobs.map Prod.fst).Nodup)
    (unready : t.unready → t.tickPeriod = none ∧ ∀ p, (t.port p).settle = .attached)
    (adminSet : ∀ w, t.walk = some w → w.adminSet ≠ 0)
    (admin : t.formatted → ∃ p, (t.port p).admin = true ∧ (t.port p).settle = .attached) : t.PortLaw where
  line := fun p => (ok p).line
  waiting := fun p => (ok p).waiting
  claims := fun q p => (ok p).claims q
  away := fun p => (ok p).away
  stack := fun p => (ok p).sound.1
  pending := fun p => (ok p).sound.2
  reclaiming := fun p => by
    rw [hasPortJob_iff_portJobs]
    exact (ok p).reclaiming
  endState := fun p e he => (ok p).endState e (mem_portJobs.2 he)
  once := by
    rw [filterMap_port?]
    exact once
  settled := fun p => (ok p).settled
  unready := unready
  adminSet := adminSet
  admin := admin

namespace PortOk

/-- A port whose state, line and jobs are as they were; its claims, commands and notices as the laws allow. -/
theorem congr (h : s.PortOk p) (hline : (t.interface p).line = (s.interface p).line)
    (hstate : (t.port p).state = (s.port p).state) (hsettle : (t.port p).settle = (s.port p).settle)
    (hjobs : ∀ e, (p, e) ∈ t.portJobs ↔ (p, e) ∈ s.portJobs)
    (hwait : ∀ r, (t.interface p).slot.status = .waiting r →
      (s.port p).state = .attached ∨ (s.interface p).slot.status = .waiting r)
    (hclaim : ∀ q, (t.queue q).claimant = some p → (s.port p).state = .attached ∨ (s.queue q).claimant = some p)
    (haway : (s.port p).state ≠ .attached → s.noticeUnit p = .cleared → t.noticeUnit p = .cleared)
    (hsound : (t.noticeUnit p).Sound) : t.PortOk p where
  line := by rw [hline, hstate]; exact h.line
  waiting := fun r hr => by
    rw [hstate]
    exact (hwait r hr).elim id (h.waiting r)
  claims := fun q hq => by
    rw [hstate]
    exact (hclaim q hq).elim id (h.claims q)
  away := fun hne => by
    rw [hstate] at hne
    exact haway hne (h.away hne)
  sound := hsound
  reclaiming := by
    simp only [hstate, hjobs]
    exact h.reclaiming
  endState := fun e he => hsettle.trans (h.endState e ((hjobs e).1 he))
  settled := by
    rw [hstate, hsettle]
    exact h.settled

/-- A port of which nothing has changed but perhaps its claims. -/
theorem untouched (h : s.PortOk p) (hi : t.interface p = s.interface p) (hp : t.port p = s.port p)
    (hu : t.noticeUnit p = s.noticeUnit p) (hjobs : ∀ e, (p, e) ∈ t.portJobs ↔ (p, e) ∈ s.portJobs)
    (hclaim : ∀ q, (t.queue q).claimant = some p → (s.queue q).claimant = some p) : t.PortOk p :=
  h.congr (by rw [hi]) (by rw [hp]) (by rw [hp]) hjobs (fun r hr => .inr (by rwa [← hi]))
    (fun q hq => .inr (hclaim q hq)) (fun _ hc => hu.trans hc) (by rw [hu]; exact h.sound)

/-- An ATTACHED port has no PORT job (R134). -/
theorem no_job_of_attached (h : s.PortOk p) (ha : (s.port p).state = .attached) (e : SettleState) :
    (p, e) ∉ s.portJobs := fun he => by
  cases ha.symm.trans (h.reclaiming.2 ⟨by rw [ha]; decide, e, he⟩)

end PortOk

/-- A change of the ports alone, in a device that stays in its state. -/
theorem PortLaw.of_same_device (h : s.PortLaw) (hd : t.device = s.device) (hk : t.tickPeriod = s.tickPeriod)
    (hw : t.walk = s.walk) (ok : ∀ p, t.PortOk p) (once : (t.portJobs.map Prod.fst).Nodup)
    (hsettle : s.unready → ∀ p, (t.port p).settle = .attached)
    (admin : s.formatted → ∃ p, (t.port p).admin = true ∧ (t.port p).settle = .attached) : t.PortLaw :=
  .of_ok ok once
    (fun hu => ⟨hk.trans (h.unready ((unready_congr hd).1 hu)).1, hsettle ((unready_congr hd).1 hu)⟩)
    (fun w hs => h.adminSet w (hw ▸ hs)) (fun hf => admin ((formatted_congr hd hk).1 hf))

/-- The port table, the reset lines and the PORT jobs are as they were. -/
structure SamePorts (s t : State) : Prop where
  line : ∀ p, (t.interface p).line = (s.interface p).line
  wait : ∀ p r, (t.interface p).slot.status = .waiting r →
    (s.port p).state = .attached ∨ (s.interface p).slot.status = .waiting r
  port : ∀ p, (t.port p).state = (s.port p).state ∧ (t.port p).settle = (s.port p).settle ∧
    (t.port p).admin = (s.port p).admin
  claim : ∀ q, (t.queue q).claimant = (s.queue q).claimant ∨ (t.queue q).claimant = none ∨
    ∃ p, (t.queue q).claimant = some p ∧ (s.port p).state = .attached
  away : ∀ p, (s.port p).state ≠ .attached → s.noticeUnit p = .cleared → t.noticeUnit p = .cleared
  sound : ∀ p, (s.noticeUnit p).Sound → (t.noticeUnit p).Sound
  jobs : t.portJobs = s.portJobs

theorem SamePorts.ok (hs : s.SamePorts t) (h : s.PortLaw) (p : Port) : t.PortOk p := by
  obtain ⟨hline, hwait, hport, hclaim, haway, hsound, hjobs⟩ := hs
  obtain ⟨hstate, hsettle, -⟩ := hport p
  refine (h.ok p).congr (hline p) hstate hsettle (fun e => by rw [hjobs]) (hwait p) (fun q hq => ?_) (haway p)
    (hsound p (h.ok p).sound)
  rcases hclaim q with heq | hnone | ⟨r, hr, ha⟩
  · exact .inr (heq ▸ hq)
  · cases hnone.symm.trans hq
  · cases hr.symm.trans hq
    exact .inl ha

/-- The ports stay, the device and the walk as the laws allow. -/
theorem PortLaw.samePorts (h : s.PortLaw) (hs : s.SamePorts t) (hu : t.unready → s.unready)
    (hk : t.tickPeriod = s.tickPeriod) (hw : ∀ w, t.walk = some w → w.adminSet ≠ 0) (hf : t.formatted → s.formatted) :
    t.PortLaw := by
  refine .of_ok (hs.ok h) (by rw [hs.jobs]; exact h.nodup) (fun hun => ⟨?_, fun p => ?_⟩) hw fun hfor => ?_
  · exact hk.trans (h.unready (hu hun)).1
  · obtain ⟨-, hsettle, -⟩ := hs.port p
    exact hsettle.trans ((h.unready (hu hun)).2 p)
  · obtain ⟨p, hadmin, hsettle⟩ := h.admin (hf hfor)
    obtain ⟨-, hsettled, hflag⟩ := hs.port p
    exact ⟨p, hflag.trans hadmin, hsettled.trans hsettle⟩

theorem PortLaw.congr (h : s.PortLaw) (hs : s.SamePorts t) (hd : t.device = s.device)
    (hk : t.tickPeriod = s.tickPeriod) (hw : t.walk = s.walk) : t.PortLaw :=
  h.samePorts hs (unready_congr hd).1 hk (fun w hsome => h.adminSet w (hw ▸ hsome)) (formatted_congr hd hk).1

namespace SamePorts

/-- Nothing of the ports changes. -/
theorem of_eq (hi : t.interfaces = s.interfaces) (hp : t.ports = s.ports) (hq : ∀ q, (t.queue q).claimant = (s.queue q).claimant)
    (hn : t.notices = s.notices) (hj : t.jobs = s.jobs) : s.SamePorts t where
  line := fun p => by simp only [interface, hi]
  wait := fun p r hr => .inr (by simpa only [interface, hi] using hr)
  port := fun p => by simp only [State.port, hp, and_self]
  claim := fun q => .inl (hq q)
  away := fun p _ hc => (noticeUnit_congr hn p).trans hc
  sound := fun p hs => by rwa [noticeUnit_congr hn p]
  jobs := by rw [portJobs, hj, portJobs]

/-- Ports receive what a change of a queue's count raises. -/
theorem of_receives (hi : t.interfaces = s.interfaces) (hp : t.ports = s.ports)
    (hq : ∀ q, (t.queue q).claimant = (s.queue q).claimant) (hn : ∀ r, s.receives r (t.noticeUnit r))
    (hj : t.jobs = s.jobs) : s.SamePorts t where
  line := fun p => by simp only [interface, hi]
  wait := fun p r hr => .inr (by simpa only [interface, hi] using hr)
  port := fun p => by simp only [State.port, hp, and_self]
  claim := fun q => .inl (hq q)
  away := fun p hne hc => (hn p).elim (fun h => h.trans hc) (fun h => absurd h.1 hne)
  sound := fun p hs => receives_sound hs (hn p)
  jobs := by rw [portJobs, hj, portJobs]

end SamePorts

/-! ## A port that changes its state -/

namespace PortOk

/-- A port without notices, waiting command or claims. -/
theorem of_cleared (hunit : t.noticeUnit p = .cleared) (hwait : ∀ r, (t.interface p).slot.status ≠ .waiting r)
    (hclaim : ∀ q, (t.queue q).claimant ≠ some p) (hline : (t.interface p).line = true ↔ (t.port p).state = .down)
    (hreclaiming : (t.port p).state = .reclaiming ↔ (t.port p).state ≠ .down ∧ ∃ e, (p, e) ∈ t.portJobs)
    (hend : ∀ e, (p, e) ∈ t.portJobs → (t.port p).settle = e)
    (hsettled : ((t.port p).state = .attached → (t.port p).settle = .attached) ∧
      ((t.port p).state = .fenced → (t.port p).settle = .fenced)) : t.PortOk p :=
  ⟨hline, fun r hr => absurd hr (hwait r), fun q hq => absurd hq (hclaim q), fun _ => hunit,
    by rw [hunit]; exact NoticeUnit.cleared_sound, hreclaiming, hend, hsettled⟩

/-- A port that is not ATTACHED has no waiting command and no claim. -/
theorem quiet_of_away (h : s.PortOk p) (hne : (s.port p).state ≠ .attached) :
    (∀ r, (s.interface p).slot.status ≠ .waiting r) ∧ ∀ q, (s.queue q).claimant ≠ some p :=
  ⟨fun r hr => hne (h.waiting r hr), fun q hq => hne (h.claims q hq)⟩

/-- A released port is RECLAIMING with a PORT job, else in its settle state (R136). -/
theorem released (hunit : s.noticeUnit p = .cleared) (hwait : ∀ r, (s.interface p).slot.status ≠ .waiting r)
    (hclaim : ∀ q, (s.queue q).claimant ≠ some p) (hline : (s.interface p).line = false)
    (hend : ∀ e, (p, e) ∈ s.portJobs → (s.port p).settle = e) : (s.releaseReset p).PortOk p := by
  have hport := s.releaseReset_port_same p
  have hinterface := s.releaseReset_interface_same p
  have settleState (y : SettleState) : y.toPortState ≠ .down ∧ y.toPortState ≠ .reclaiming ∧
      (y.toPortState = .attached → y = .attached) ∧ (y.toPortState = .fenced → y = .fenced) := by
    cases y <;> decide
  obtain ⟨hdown, hnot, hattached, hfenced⟩ := settleState (s.port p).settle
  refine of_cleared hunit (fun r => ?_) hclaim ?_ ?_ ?_ ?_
  · rw [hinterface]
    exact hwait r
  · rw [hinterface, hport, hline]
    split <;> simp [hdown]
  · rw [hport]
    show _ ↔ _ ∧ ∃ e, (p, e) ∈ s.portJobs
    rw [← hasPortJob_iff_portJobs]
    split
    · next hjob => simp [hjob]
    · next hjob => simp [hjob, hnot]
  · rw [hport]
    exact hend
  · rw [hport]
    split
    · simp
    · exact ⟨hattached, hfenced⟩

end PortOk

/-- A port reset leaves nothing waiting, pending or claimed (R135). -/
theorem portGone_quiet (s : State) (p : Port) (y : SettleState) :
    (s.portGone p y).noticeUnit p = .cleared ∧ (∀ r, ((s.portGone p y).interface p).slot.status ≠ .waiting r) ∧
      ∀ q, ((s.portGone p y).queue q).claimant ≠ some p := by
  refine ⟨s.portGone_noticeUnit_same p y, fun r => ?_, fun q => ?_⟩
  · rw [portGone_slot_status]
    exact slotAfterReset_not_waiting _ r
  · rw [portGone_queue]
    split
    · simp
    · next h => exact h

/-- Claims of another port stand. -/
theorem claimant_of_cleared {d : Queue} {r : Port}
    (h : (if d.claimant = some p then { d with claimant := none } else d).claimant = some r) : d.claimant = some r := by
  split at h
  · cases h
  · exact h

theorem portGone_portJobs (s : State) (p : Port) (y : SettleState) : (s.portGone p y).portJobs = s.portJobs := by
  rw [portGone_frame]
  rfl

theorem portGone_untouched {r : Port} (h : s.PortOk r) (y : SettleState) (hr : r ≠ p) : (s.portGone p y).PortOk r :=
  h.untouched (s.portGone_interface_other p y r hr) (s.portGone_port_other p y r hr)
    (s.portGone_noticeUnit_other p y r hr) (fun e => by rw [portGone_portJobs])
    (fun q hq => claimant_of_cleared (by rwa [portGone_queue] at hq))

theorem appendPortJob_portJobs (s : State) (p : Port) (y : SettleState) :
    (s.appendPortJob p y).portJobs = if s.holdsAny p then s.portJobs ++ [(p, y)] else s.portJobs := by
  rw [portJobs, appendPortJob_jobs]
  split
  · exact List.filterMap_append
  · rfl

/-- A PORT job appended for one port is not another's. -/
theorem mem_appendPortJob {r : Port} {e y : SettleState} :
    (r, e) ∈ (s.appendPortJob p y).portJobs ↔ (r, e) ∈ s.portJobs ∨ (s.holdsAny p = true ∧ r = p ∧ e = y) := by
  rw [appendPortJob_portJobs]
  split
  · next h => simp [h]
  · next h => simp [h]

theorem appendPortJob_nodup {y : SettleState} (h : (s.portJobs.map Prod.fst).Nodup) (hp : ∀ e, (p, e) ∉ s.portJobs) :
    ((s.appendPortJob p y).portJobs.map Prod.fst).Nodup := by
  rw [appendPortJob_portJobs]
  split
  · rw [List.map_append, List.nodup_append']
    refine ⟨h, by simp, fun r hr hrp => ?_⟩
    obtain ⟨x, hx, rfl⟩ := List.mem_map.1 hr
    obtain rfl := List.mem_singleton.1 hrp
    exact hp x.2 hx
  · exact h

theorem appendPortJob_untouched {r : Port} (h : s.PortOk r) (y : SettleState) (hr : r ≠ p) :
    (s.appendPortJob p y).PortOk r := by
  refine h.untouched (appendPortJob_interface _ _ _ r) (appendPortJob_port _ _ _ r) (appendPortJob_noticeUnit _ _ _ r)
    (fun e => ?_) (fun q hq => ?_)
  · rw [mem_appendPortJob]
    simp [hr]
  · rwa [appendPortJob_queue] at hq

theorem releaseReset_untouched {r : Port} (h : s.PortOk r) (hr : r ≠ p) : (s.releaseReset p).PortOk r :=
  h.untouched (releaseReset_interface_other _ _ _ hr) (releaseReset_port_other _ _ _ hr) rfl (fun _ => Iff.rfl)
    (fun _ => id)

theorem setAside_portJobs (s : State) (p : Port) :
    (s.setAside p).portJobs = if s.holdsAny p then s.portJobs ++ [(p, .fenced)] else s.portJobs := by
  rw [portJobs, setAside_jobs]
  split
  · exact List.filterMap_append
  · rfl

/-- A fence leaves the target's reset line and no WAITING command of it (R73). -/
theorem fenceSlot_interface (s : State) (p : Port) :
    ((s.fenceSlot p).interface p).line = (s.interface p).line ∧
      ∀ r, ((s.fenceSlot p).interface p).slot.status ≠ .waiting r := by
  cases hs : (s.interface p).slot.status with
  | idle => simp [fenceSlot, hs]
  | waiting c => simp [fenceSlot_interface_of_waiting s p c hs, PortInterface.afterCompletion]
  | running c => simp [fenceSlot, hs]

/-! ### The port reset line -/

theorem setLine_line (s : State) (p : Port) (b : Bool) : ((s.setLine p b).interface p).line = b := by
  rw [setLine, setInterface_interface_same]

theorem setLine_untouched {r : Port} (h : s.PortOk r) (b : Bool) (hr : r ≠ p) : (s.setLine p b).PortOk r :=
  h.untouched (setInterface_interface_other _ _ _ _ hr) rfl rfl (fun _ => Iff.rfl) (fun _ => id)

namespace PortLaw

/-- A port reset assertion: the port goes DOWN, and its settle state is as it was (R135). -/
theorem lineAsserted (h : s.PortLaw) {y : SettleState} (hy : y = (s.port p).settle) :
    ((s.setLine p true).portGone p y).PortLaw := by
  obtain ⟨hunit, hwait, hclaim⟩ := (s.setLine p true).portGone_quiet p y
  have hport := (s.setLine p true).portGone_port_same p y
  have hjobs : ((s.setLine p true).portGone p y).portJobs = s.portJobs := portGone_portJobs _ p y
  have entries (r : Port) : (((s.setLine p true).portGone p y).port r).settle = (s.port r).settle ∧
      (((s.setLine p true).portGone p y).port r).admin = (s.port r).admin := by
    by_cases hr : r = p
    · rw [hr, hport]
      exact ⟨hy, rfl⟩
    · rw [portGone_port_other _ _ _ _ hr]
      exact ⟨rfl, rfl⟩
  refine h.of_same_device (by rw [portGone_frame]; rfl) (by rw [portGone_frame]; rfl) (by rw [portGone_frame]; rfl)
    (fun r => ?_) (by rw [hjobs]; exact h.nodup) (fun hu r => (entries r).1.trans ((h.unready hu).2 r)) fun hf => ?_
  · by_cases hr : r = p
    · rw [hr]
      refine .of_cleared hunit hwait hclaim ?_ ?_ ?_ ?_
      · rw [portGone_line, setLine_line, hport]
        exact iff_of_true rfl rfl
      · rw [hport]
        simp
      · rw [hjobs, hport]
        exact fun e he => hy.trans ((h.ok p).endState e he)
      · rw [hport]
        simp
    · exact portGone_untouched (setLine_untouched (h.ok r) true hr) y hr
  · obtain ⟨r, hadmin, hsettle⟩ := h.admin hf
    exact ⟨r, (entries r).2.trans hadmin, (entries r).1.trans hsettle⟩

/-- A PORT job for a port that has left ATTACHED (R135, R141). -/
theorem jobAppended (h : s.PortLaw) (hdown : (s.port p).state = .down) (hnone : ∀ e, (p, e) ∉ s.portJobs) {y : SettleState}
    (hy : (s.port p).settle = y) : (s.appendPortJob p y).PortLaw := by
  have hport (r : Port) : (s.appendPortJob p y).port r = s.port r := appendPortJob_port _ _ _ r
  have hline (r : Port) : (s.appendPortJob p y).interface r = s.interface r := appendPortJob_interface _ _ _ r
  refine h.of_same_device (by rw [appendPortJob_frame]) (by rw [appendPortJob_frame]) (by rw [appendPortJob_frame])
    (fun r => ?_) (appendPortJob_nodup h.nodup hnone) (fun hu r => (hport r).symm ▸ (h.unready hu).2 r) fun hf => ?_
  · by_cases hr : r = p
    · subst hr
      have hne : (s.port r).state ≠ .attached := by rw [hdown]; decide
      obtain ⟨hwait, hclaim⟩ := (h.ok r).quiet_of_away hne
      refine .of_cleared ((appendPortJob_noticeUnit _ _ _ r).trans ((h.ok r).away hne)) (fun c => ?_) (fun q => ?_) ?_ ?_
        (fun e he => ?_) ?_
      · rw [hline]
        exact hwait c
      · rw [appendPortJob_queue]
        exact hclaim q
      · rw [hline, hport]
        exact (h.ok r).line
      · rw [hport, hdown]
        simp
      · rw [hport, hy]
        rcases mem_appendPortJob.1 he with he | ⟨-, -, he⟩
        · exact absurd he (hnone e)
        · exact he.symm
      · rw [hport]
        exact (h.ok r).settled
    · exact appendPortJob_untouched (h.ok r) y hr
  · obtain ⟨r, hadmin⟩ := h.admin hf
    exact ⟨r, by rwa [hport]⟩

/-- A port reset release (R136). -/
theorem lineReleased (h : s.PortLaw) (hl : (s.interface p).line = true) :
    ((s.setLine p false).releaseReset p).PortLaw := by
  have hdown : (s.port p).state = .down := (h.ok p).line.1 hl
  have hne : (s.port p).state ≠ .attached := by rw [hdown]; decide
  obtain ⟨hwait, hclaim⟩ := (h.ok p).quiet_of_away hne
  have entries (r : Port) : (((s.setLine p false).releaseReset p).port r).settle = (s.port r).settle ∧
      (((s.setLine p false).releaseReset p).port r).admin = (s.port r).admin := by
    by_cases hr : r = p
    · rw [hr, releaseReset_port_same]
      exact ⟨rfl, rfl⟩
    · rw [releaseReset_port_other _ _ _ hr]
      exact ⟨rfl, rfl⟩
  refine h.of_same_device rfl rfl rfl (fun r => ?_) h.nodup (fun hu r => (entries r).1.trans ((h.unready hu).2 r))
    fun hf => ?_
  · by_cases hr : r = p
    · rw [hr]
      refine .released ((h.ok p).away hne) (fun c => ?_) hclaim (s.setLine_line p false) (h.ok p).endState
      rw [setLine, setInterface_interface_same]
      exact hwait c
    · exact releaseReset_untouched (setLine_untouched (h.ok r) false hr) hr
  · obtain ⟨r, hadmin, hsettle⟩ := h.admin hf
    exact ⟨r, (entries r).2.trans hadmin, (entries r).1.trans hsettle⟩

/-! ### RESET PORT, FENCE PORT, UNFENCE PORT and the end of a PORT job -/

/-- RESET PORT takes its own ATTACHED port through a reset and its release (R137). -/
theorem portRestarted (h : s.PortLaw) (ha : (s.port p).state = .attached) :
    (((s.portGone p .attached).appendPortJob p .attached).releaseReset p).PortLaw := by
  obtain ⟨hunit, hwait, hclaim⟩ := s.portGone_quiet p .attached
  have hnone := (h.ok p).no_job_of_attached ha
  have hgone : (s.portGone p .attached).portJobs = s.portJobs := portGone_portJobs _ p _
  have hsettle : (((s.portGone p .attached).appendPortJob p .attached).port p).settle = .attached := by
    rw [appendPortJob_port, portGone_port_same]
  have entries (r : Port) :
      ((((s.portGone p .attached).appendPortJob p .attached).releaseReset p).port r).settle = (s.port r).settle ∧
        ((((s.portGone p .attached).appendPortJob p .attached).releaseReset p).port r).admin = (s.port r).admin := by
    by_cases hr : r = p
    · rw [hr, releaseReset_port_same, appendPortJob_port, portGone_port_same]
      exact ⟨((h.ok p).settled.1 ha).symm, rfl⟩
    · rw [releaseReset_port_other _ _ _ hr, appendPortJob_port, portGone_port_other _ _ _ _ hr]
      exact ⟨rfl, rfl⟩
  refine h.of_same_device (by rw [portRestart_frame]) (by rw [portRestart_frame]) (by rw [portRestart_frame])
    (fun r => ?_) ?_ (fun hu r => (entries r).1.trans ((h.unready hu).2 r)) fun hf => ?_
  · by_cases hr : r = p
    · rw [hr]
      refine .released ((appendPortJob_noticeUnit _ _ _ p).trans hunit) (fun c => ?_) (fun q => ?_) ?_ (fun e he => ?_)
      · rw [appendPortJob_interface]
        exact hwait c
      · rw [appendPortJob_queue]
        exact hclaim q
      · rw [appendPortJob_interface, portGone_line, ← Bool.not_eq_true, (h.ok p).line, ha]
        decide
      · rw [hsettle]
        rcases mem_appendPortJob.1 he with he | ⟨-, -, he⟩
        · rw [hgone] at he
          exact absurd he (hnone e)
        · exact he.symm
    · exact releaseReset_untouched (appendPortJob_untouched (portGone_untouched (h.ok r) _ hr) _ hr) hr
  · exact appendPortJob_nodup (hgone.symm ▸ h.nodup) (hgone.symm ▸ hnone)
  · obtain ⟨r, hadmin, hset⟩ := h.admin hf
    exact ⟨r, (entries r).2.trans hadmin, (entries r).1.trans hset⟩

/-- FENCE PORT sets an ATTACHED port aside; its issuer is an admin port that stays ATTACHED (R139, R149). -/
theorem fenced (h : s.PortLaw) (ha : (s.port p).state = .attached)
    (hadmin : ∃ r, r ≠ p ∧ (s.port r).admin = true ∧ (s.port r).settle = .attached) (hd : s.device = .running) :
    (s.setAside p).PortLaw := by
  have hnone := (h.ok p).no_job_of_attached ha
  have hport := s.setAside_port_same p
  have hjobs := s.setAside_portJobs p
  have happend : ∀ r e, (r, e) ∈ (s.setAside p).portJobs ↔
      (r, e) ∈ s.portJobs ∨ (s.holdsAny p = true ∧ r = p ∧ e = .fenced) := fun r e => by
    rw [hjobs, ← appendPortJob_portJobs, mem_appendPortJob]
  obtain ⟨hline, hwait⟩ := fenceSlot_interface s p
  refine h.of_same_device (by rw [setAside_frame]) (by rw [setAside_frame]) (by rw [setAside_frame])
    (fun r => ?_) ?_ (fun hu => absurd hu (not_unready_of_running hd)) fun _ => ?_
  · by_cases hr : r = p
    · rw [hr]
      refine .of_cleared (s.setAside_noticeUnit_same p) (fun c => ?_) (fun q => ?_) ?_ ?_ (fun e he => ?_) ?_
      · rw [setAside_interface]
        exact hwait c
      · rw [setAside_queue]
        split
        · simp
        · next hc => exact hc
      · have hne : ¬ (s.interface p).line = true := by
          rw [(h.ok p).line, ha]
          decide
        rw [setAside_interface, hline, hport]
        refine iff_of_false hne ?_
        dsimp only
        split <;> decide
      · simp only [happend, hport, hnone]
        cases s.holdsAny p <;> simp
      · rw [hport]
        rcases (happend p e).1 he with he | ⟨-, -, rfl⟩
        · exact absurd he (hnone e)
        · rfl
      · rw [hport]
        dsimp only
        split <;> simp
    · refine (h.ok r).untouched ?_ (s.setAside_port_other p r hr) (s.setAside_noticeUnit_other p r hr) (fun e => ?_)
        (fun q hq => claimant_of_cleared (by rwa [setAside_queue] at hq))
      · rw [setAside_interface]
        exact s.fenceSlot_interface_other p r hr
      · rw [happend]
        simp [hr]
  · rw [hjobs, ← appendPortJob_portJobs]
    exact appendPortJob_nodup h.nodup hnone
  · obtain ⟨r, hr, hflag, hsettle⟩ := hadmin
    exact ⟨r, by rwa [setAside_port_other _ _ _ hr], by rwa [setAside_port_other _ _ _ hr]⟩

/-- A port that leaves RECLAIMING or FENCED for a state that is to hold no job (R140, R144). -/
theorem settles (h : s.PortLaw) (hne : (s.port p).state = .reclaiming ∨ (s.port p).state = .fenced) {y : SettleState}
    (hy : y = (s.port p).settle ∨ y = .attached) (js : List Job)
    (hjobs : ∀ r e, (r, e) ∈ js.filterMap Job.portJob? ↔ (r, e) ∈ s.portJobs ∧ r ≠ p)
    (hnodup : ((js.filterMap Job.portJob?).map Prod.fst).Nodup) :
    State.PortLaw { s.movePort p y.toPortState y with jobs := js } := by
  have haway : (s.port p).state ≠ .attached := by rcases hne with h | h <;> rw [h] <;> decide
  have hup : ¬ (s.interface p).line = true := by
    rw [(h.ok p).line]
    rcases hne with h | h <;> rw [h] <;> decide
  obtain ⟨hwait, hclaim⟩ := (h.ok p).quiet_of_away haway
  have hport := s.movePort_port_same p y.toPortState y
  have hsettle (r : Port) : ((s.movePort p y.toPortState y).port r).settle = (s.port r).settle ∨
      ((s.movePort p y.toPortState y).port r).settle = .attached := by
    by_cases hr : r = p
    · rw [hr, hport]
      exact hy
    · rw [movePort_port_other _ _ _ _ _ hr]
      exact .inl rfl
  have hadmin (r : Port) : ((s.movePort p y.toPortState y).port r).admin = (s.port r).admin := by
    by_cases hr : r = p
    · rw [hr, hport]
    · rw [movePort_port_other _ _ _ _ _ hr]
  refine h.of_same_device rfl rfl rfl (fun r => ?_) hnodup (fun hu r => ?_) fun hf => ?_
  · by_cases hr : r = p
    · rw [hr]
      have state : (State.port { s.movePort p y.toPortState y with jobs := js } p).state = y.toPortState :=
        congrArg PortEntry.state hport
      have settle : (State.port { s.movePort p y.toPortState y with jobs := js } p).settle = y := congrArg PortEntry.settle hport
      have nojob (e : SettleState) : (p, e) ∉ State.portJobs { s.movePort p y.toPortState y with jobs := js } :=
        fun he => ((hjobs p e).1 he).2 rfl
      refine .of_cleared ((h.ok p).away haway) hwait hclaim ?_ ?_ (fun e he => absurd he (nojob e)) ?_
      · rw [state]
        refine iff_of_false hup ?_
        cases y <;> decide
      · rw [state]
        simp only [nojob]
        cases y <;> simp [SettleState.toPortState]
      · rw [state, settle]
        cases y <;> decide
    · refine (h.ok r).untouched rfl (movePort_port_other _ _ _ _ _ hr) rfl (fun e => (hjobs r e).trans ?_) (fun _ => id)
      exact and_iff_left hr
  · exact (hsettle r).elim (fun he => he.trans ((h.unready hu).2 r)) id
  · obtain ⟨r, hflag, hset⟩ := h.admin hf
    exact ⟨r, (hadmin r).trans hflag, (hsettle r).elim (fun he => he.trans hset) id⟩

end PortLaw

/-! ## The device, the walk and the reset of the part -/

/-- Before the format completes there is no tick period, so a part with one has been formatted. -/
theorem formatted_of_tickPeriod (hk : s.tickPeriod ≠ none) (hu : s.unready → s.tickPeriod = none) : s.formatted := by
  cases hd : s.device with
  | running => exact .inl hd
  | halted => exact .inr ⟨hd, hk⟩
  | unformatted => exact absurd (hu (.inl hd)) hk
  | formatting => exact absurd (hu (.inr hd)) hk

namespace PortLaw

theorem entersHalted (h : s.PortLaw) : State.PortLaw { s with device := .halted } := by
  refine h.samePorts (.of_eq rfl rfl (fun _ => rfl) rfl rfl) (fun hu => absurd hu (not_unready_of_halted rfl)) rfl
    h.adminSet fun hf => formatted_of_tickPeriod ?_ fun hu => (h.unready hu).1
  rcases hf with hf | ⟨-, hk⟩
  · cases hf
  · exact hk

theorem formatStarted (h : s.PortLaw) (hd : s.device = .unformatted) (w : FormatWalk) (hw : w.adminSet ≠ 0) :
    State.PortLaw { s with walk := some w, device := .formatting } := by
  refine h.samePorts (.of_eq rfl rfl (fun _ => rfl) rfl rfl) (fun _ => .inl hd) rfl (fun x hx => ?_) fun hf => ?_
  · cases hx
    exact hw
  · rcases hf with hf | ⟨hf, -⟩ <;> cases hf

/-- FORMAT completion makes the admin set's ports admin; every port is to settle ATTACHED (R17, R149). -/
theorem walkFinished (h : s.PortLaw) {w : FormatWalk} (hd : s.device = .formatting) (hw : s.walk = some w) :
    (s.finishWalk w).PortLaw := by
  have hport (p : Port) : (s.finishWalk w).port p =
      { s.port p with quota := 1024, admin := w.adminSet.getLsbD p.val, ordinal := 0 } :=
    getElem_mapTableIdx _ s.ports p.val p.isLt
  have hunit (p : Port) : (s.finishWalk w).noticeUnit p = .cleared := by simp [finishWalk, noticeUnit]
  have hsettle := (h.unready (.inr hd)).2
  refine .of_ok (fun p => ?_) h.nodup (fun hu => absurd hu (not_unready_of_running rfl)) (fun x hx => ?_) fun _ => ?_
  · refine (h.ok p).congr rfl (by rw [hport]) (by rw [hport]) (fun _ => Iff.rfl) (fun _ hr => .inr hr) (fun q hq => ?_)
      (fun _ _ => hunit p) (by rw [hunit]; exact NoticeUnit.cleared_sound)
    rw [finishWalk_queue] at hq
    cases hq
  · cases hx
  · have hbits : ∃ p : Port, w.adminSet.getLsbD p.val = true := by
      by_contra hnone
      refine h.adminSet w hw (BitVec.eq_of_getLsbD_eq fun i hi => ?_)
      refine Eq.trans ?_ BitVec.getLsbD_zero.symm
      rw [← Bool.not_eq_true]
      exact fun hbit => hnone ⟨⟨i, hi⟩, hbit⟩
    obtain ⟨p, hp⟩ := hbits
    exact ⟨p, by rw [hport]; exact hp, by rw [hport]; exact hsettle p⟩

/-- A part whose ports stand as after power-on, each DOWN while its line is asserted (R134). -/
theorem of_fresh (hline : ∀ p, t.port p = .cleared (t.interface p).line)
    (hidle : ∀ p, (t.interface p).slot = .idle) (hq : ∀ q, t.queue q = .cleared)
    (hn : ∀ p, t.noticeUnit p = .cleared) (hj : t.jobs = []) (hd : t.device = .unformatted) (hw : t.walk = none)
    (hk : t.tickPeriod = none) : t.PortLaw := by
  have hjobs : t.portJobs = [] := by rw [portJobs, hj]; rfl
  have settle (p : Port) : (t.port p).settle = .attached := by rw [hline]; rfl
  have state (p : Port) : (t.port p).state = if (t.interface p).line then .down else .attached := by
    rw [hline]
    rfl
  refine .of_ok (fun p => .of_cleared (hn p) (fun r => ?_) (fun q => ?_) ?_ ?_ ?_ ?_) (by simp [hjobs])
    (fun _ => ⟨hk, settle⟩) (by simp [hw]) (by simp [formatted, hd])
  · rw [hidle]
    simp [CommandSlot.idle]
  · rw [hq]
    simp [Queue.cleared]
  · rw [state]
    cases (t.interface p).line <;> simp
  · rw [state, hjobs]
    cases (t.interface p).line <;> simp
  · simp [hjobs]
  · rw [state, settle]
    cases (t.interface p).line <;> simp

theorem ofPoweredOn (lines : PortSet) : (State.poweredOn lines).PortLaw := by
  have entry (p : Port) : (State.poweredOn lines).port p = .cleared (lines.getLsbD p.val) ∧
      (State.poweredOn lines).interface p = .cleared (lines.getLsbD p.val) := by
    fin_cases p <;> exact ⟨rfl, rfl⟩
  refine of_fresh (fun p => ?_) (fun p => ?_) (poweredOn_queue lines) (fun p => ?_) rfl rfl rfl rfl
  · rw [(entry p).1, (entry p).2]
    rfl
  · rw [(entry p).2]
    rfl
  · simp [poweredOn, noticeUnit]

theorem ofDeviceReset (s : State) : s.deviceReset.PortLaw := by
  have hport (p : Port) : s.deviceReset.port p = .cleared (s.interface p).line :=
    getElem_mapTable _ s.interfaces p.val p.isLt
  have hinterface (p : Port) : s.deviceReset.interface p =
      { PortInterface.cleared (s.interface p).line with readData := (s.interface p).readData } :=
    getElem_mapTable _ s.interfaces p.val p.isLt
  refine of_fresh (fun p => ?_) (fun p => ?_) s.deviceReset_queue (fun p => ?_) rfl rfl rfl rfl
  · rw [hport, hinterface]
    rfl
  · rw [hinterface]
    rfl
  · simp [deviceReset, poweredOn, noticeUnit]

/-! ## The remaining changes -/

/-- SET PORT leaves some admin port in settle state ATTACHED (R149, R159). -/
theorem portSet (h : s.PortLaw) {quota : Nat} {admin : Bool} (ha : admin = true ∨ s.otherAdmin p = true) :
    (setPortEffect p quota admin s).PortLaw := by
  have entries (r : Port) : ((setPortEffect p quota admin s).port r).state = (s.port r).state ∧
      ((setPortEffect p quota admin s).port r).settle = (s.port r).settle := by
    by_cases hr : r = p
    · rw [hr, setPortEffect, setPortEntry_port_same]
      exact ⟨rfl, rfl⟩
    · rw [setPortEffect, setPortEntry_port_other _ _ _ _ hr]
      exact ⟨rfl, rfl⟩
  refine h.of_same_device rfl rfl rfl (fun r => ?_) h.nodup (fun hu r => (entries r).2.trans ((h.unready hu).2 r))
    fun hf => ?_
  · exact (h.ok r).congr rfl (entries r).1 (entries r).2 (fun _ => Iff.rfl) (fun _ hc => .inr hc) (fun _ hq => .inr hq)
      (fun _ hc => hc) (h.ok r).sound
  · by_cases hother : s.otherAdmin p = true
    · obtain ⟨r, hne, hflag, hsettle⟩ := (s.otherAdmin_eq_true p).1 hother
      exact ⟨r, by rwa [setPortEffect, setPortEntry_port_other _ _ _ _ hne], (entries r).2.trans hsettle⟩
    · obtain ⟨r, hflag, hsettle⟩ := h.admin hf
      by_cases hr : r = p
      · refine ⟨p, ?_, (entries p).2.trans (hr ▸ hsettle)⟩
        rw [setPortEffect, setPortEntry_port_same]
        exact ha.resolve_right hother
      · exact ⟨r, by rwa [setPortEffect, setPortEntry_port_other _ _ _ _ hr], (entries r).2.trans hsettle⟩

end PortLaw

end State

end Sys2Proof.Machine
end

section
/-! Proofs/PortSteps.lean: the laws of the ports, change by change. -/

namespace Sys2Proof.Machine

/-- The state, the settings and the claimant are the same. -/
def Queue.SameTerms (a b : Queue) : Prop := b.state = a.state ∧ b.settings = a.settings ∧ b.claimant = a.claimant

theorem Queue.SameTerms.trans {a b c : Queue} (h : a.SameTerms b) (h' : b.SameTerms c) : a.SameTerms c :=
  ⟨h'.1.trans h.1, h'.2.1.trans h.2.1, h'.2.2.trans h.2.2⟩

namespace State

variable {s t : State} {p : Port}

theorem setQueue_sameTerms {q : QueueNo} {d : Queue} (h : (s.queue q).SameTerms d) (x : QueueNo) :
    (s.queue x).SameTerms ((s.setQueue q d).queue x) := by
  by_cases hx : x = q
  · rw [hx, setQueue_queue_same]
    exact h
  · rw [setQueue_queue_other _ _ _ _ hx]
    exact ⟨rfl, rfl, rfl⟩

theorem link_sameTerms (s : State) (q x : QueueNo) (e : ListEnd) (m : CellNo) :
    (s.queue x).SameTerms ((s.link q e m).queue x) := by
  rw [link_queue]
  split
  · next h => rw [h]; exact ⟨rfl, rfl, rfl⟩
  · exact ⟨rfl, rfl, rfl⟩

/-- The return path changes lists and counts alone (R110). -/
theorem returnPath_sameTerms (s : State) (q x : QueueNo) (m : CellNo) :
    (s.queue x).SameTerms ((s.returnPath q m).queue x) := by
  have lowered (y) : (s.queue y).SameTerms ((s.lowerOutstanding q).queue y) := by
    refine setQueue_sameTerms ?_ y
    exact ⟨rfl, rfl, rfl⟩
  have linkedTo (f : Message → Message) (y : QueueNo) (e : ListEnd) :
      (s.queue x).SameTerms ((((s.lowerOutstanding q).updateMessage m f).link y e m).queue x) := by
    refine Queue.SameTerms.trans ?_ (link_sameTerms _ y x e m)
    rw [updateMessage_queue]
    exact lowered x
  unfold returnPath settleReturn
  dsimp only
  split
  · exact (linkedTo _ q .head).trans (setQueue_sameTerms (by exact ⟨rfl, rfl, rfl⟩) x)
  · next y _ => exact linkedTo _ y .tail
  · refine Queue.SameTerms.trans ?_ (setQueue_sameTerms (by exact ⟨rfl, rfl, rfl⟩) x)
    rw [freeMessage_queue]
    exact lowered x

theorem lowered_sameTerms (s : State) (source : Option QueueNo) (x : QueueNo) :
    (s.queue x).SameTerms (s.lowered source x) := by
  unfold lowered
  split <;> exact ⟨rfl, rfl, rfl⟩

/-! ## Changes of one notice unit -/

namespace SamePorts

/-- One port's unit is written. -/
theorem of_unit (u : NoticeUnit) (hcleared : (s.port p).state ≠ .attached → s.noticeUnit p = .cleared → u = .cleared)
    (hsound : (s.noticeUnit p).Sound → u.Sound) : s.SamePorts (s.setNoticeUnit p u) where
  line := fun _ => rfl
  wait := fun _ _ hr => .inr hr
  port := fun _ => ⟨rfl, rfl, rfl⟩
  claim := fun _ => .inl rfl
  away := fun r hne hc => by
    by_cases hr : r = p
    · subst hr
      rw [setNoticeUnit_noticeUnit_same]
      exact hcleared hne hc
    · rwa [setNoticeUnit_noticeUnit_other _ _ _ _ hr]
  sound := fun r hs => by
    by_cases hr : r = p
    · subst hr
      rw [setNoticeUnit_noticeUnit_same]
      exact hsound hs
    · rwa [setNoticeUnit_noticeUnit_other _ _ _ _ hr]
  jobs := rfl

theorem trans {u : State} (h : s.SamePorts t) (h' : t.SamePorts u) : s.SamePorts u where
  line := fun p => (h'.line p).trans (h.line p)
  wait := fun p r hr => (h'.wait p r hr).elim (fun ha => .inl ((h.port p).1 ▸ ha)) (h.wait p r)
  port := fun p => ⟨(h'.port p).1.trans (h.port p).1, (h'.port p).2.1.trans (h.port p).2.1,
    (h'.port p).2.2.trans (h.port p).2.2⟩
  claim := fun q => by
    rcases h'.claim q with heq | hnone | ⟨p, hp, ha⟩
    · rw [heq]
      exact h.claim q
    · exact .inr (.inl hnone)
    · exact .inr (.inr ⟨p, hp, (h.port p).1 ▸ ha⟩)
  away := fun p hne hc => h'.away p ((h.port p).1 ▸ hne) (h.away p hne hc)
  sound := fun p hs => h'.sound p (h.sound p hs)
  jobs := h'.jobs.trans h.jobs

/-- A withdrawal empties no unit that is not empty already, and leaves an empty one empty (R129). -/
theorem withdrawn (s : State) (target : Option Port) (q : QueueNo) : s.SamePorts (s.withdrawFrom target q) := by
  cases target with
  | none => exact of_eq rfl rfl (fun _ => rfl) rfl rfl
  | some r => exact of_unit _ (fun _ hc => by rw [hc, NoticeUnit.withdrawn_cleared]) (fun hs => hs.withdrawn q)

/-- One interface is written, its line kept (R62). -/
theorem of_interface {i : PortInterface} (hline : i.line = (s.interface p).line)
    (hwait : ∀ r, i.slot.status = .waiting r → (s.port p).state = .attached ∨ (s.interface p).slot.status = .waiting r) :
    s.SamePorts (s.setInterface p i) where
  line := fun r => by
    by_cases hr : r = p
    · subst hr
      rw [setInterface_interface_same, hline]
    · rw [setInterface_interface_other _ _ _ _ hr]
  wait := fun r c hc => by
    by_cases hr : r = p
    · subst hr
      rw [setInterface_interface_same] at hc
      exact hwait c hc
    · rw [setInterface_interface_other _ _ _ _ hr] at hc
      exact .inr hc
  port := fun _ => ⟨rfl, rfl, rfl⟩
  claim := fun _ => .inl rfl
  away := fun _ _ hc => hc
  sound := fun _ hs => hs
  jobs := rfl

theorem of_start (s : State) (p : Port) (c : CommandCode) (o : Operands) : s.SamePorts (s.startCommand p c o) := by
  refine trans (t := { s with lastGranted := .port p }) (of_eq rfl rfl (fun _ => rfl) rfl rfl)
    (of_interface rfl fun r hr => ?_)
  cases hr

/-- A queue's claimant is cleared, or one that is ATTACHED is written (R52). -/
theorem of_queue {q : QueueNo} {d : Queue}
    (h : d.claimant = (s.queue q).claimant ∨ d.claimant = none ∨ ∃ p, d.claimant = some p ∧ (s.port p).state = .attached) :
    s.SamePorts (s.setQueue q d) where
  line := fun _ => rfl
  wait := fun _ _ hr => .inr hr
  port := fun _ => ⟨rfl, rfl, rfl⟩
  claim := fun x => by
    by_cases hx : x = q
    · subst hx
      rw [setQueue_queue_same]
      exact h
    · rw [setQueue_queue_other _ _ _ _ hx]
      exact .inl rfl
  away := fun _ _ hc => hc
  sound := fun _ hs => hs
  jobs := rfl

theorem taken (s : State) (p : Port) (q : QueueNo) (i : SlotNo) (m : CellNo) (e : ListEnd) :
    s.SamePorts (takeEffect p q i m e s) := by
  have hi : (takeEffect p q i m e s).interfaces = s.interfaces := by rw [takeEffect_frame]
  have hj : (takeEffect p q i m e s).jobs = s.jobs := by rw [takeEffect_frame]
  have hunit (r : Port) : s.receives r ((takeEffect p q i m e s).noticeUnit r) := by
    rw [takeEffect_noticeUnit]
    exact s.receives_afterCrossings q _ r
  refine ⟨fun r => by simp only [interface, hi], fun r c hc => .inr (by simpa only [interface, hi] using hc),
    fun r => ?_, fun x => .inl ?_, fun r hne hc => (hunit r).elim (fun h => h.trans hc) (fun h => absurd h.1 hne),
    fun r hs => receives_sound hs (hunit r), by rw [portJobs, hj, portJobs]⟩
  · rw [takeEffect_port, advanceOrdinal]
    by_cases hr : r = p
    · subst hr
      rw [setPortEntry_port_same]
      exact ⟨rfl, rfl, rfl⟩
    · rw [setPortEntry_port_other _ _ _ _ hr]
      exact ⟨rfl, rfl, rfl⟩
  · rw [takeEffect_queue]
    split
    · next h => rw [h]
    · rfl

end SamePorts

/-! ## Grants -/

/-- The command that a grant presents is WAITING (R65). -/
theorem waiting_of_presents {c : CommandCode} {o : Operands} (h : s.presents p c = some o) :
    ∃ r, (s.interface p).slot.status = .waiting r := by
  unfold presents at h
  split at h
  · split at h
    · cases h
    · next r hr => exact ⟨r, hr⟩
    · cases h
  · cases h

/-- The port of a granted command is ATTACHED (R71). -/
theorem PortLaw.attached_of_presents (h : s.PortLaw) {c : CommandCode} {o : Operands}
    (hp : s.presents p c = some o) : (s.port p).state = .attached := by
  obtain ⟨r, hr⟩ := waiting_of_presents hp
  exact h.waiting p r hr

/-! ## The end of a PORT job (R144) -/

theorem PortLaw.portJobDone (h : s.PortLaw) {e : SettleState} {js : List Job} (hj : s.jobs = .port p e :: js) :
    (if (s.port p).state = .reclaiming then s.popJob.movePort p e.toPortState (s.port p).settle
      else s.popJob).PortLaw := by
  have hjobs : s.portJobs = (p, e) :: js.filterMap Job.portJob? := by rw [portJobs, hj]; rfl
  have htail : s.jobs.tail = js := by rw [hj]; rfl
  have hnodup := h.nodup
  rw [hjobs, List.map_cons, List.nodup_cons] at hnodup
  obtain ⟨hgone, hrest⟩ := hnodup
  have hsettle : (s.port p).settle = e := (h.ok p).endState e (hjobs ▸ .head _)
  have rest (r : Port) (x : SettleState) : (r, x) ∈ js.filterMap Job.portJob? ↔ (r, x) ∈ s.portJobs ∧ r ≠ p := by
    rw [hjobs, List.mem_cons]
    constructor
    · intro hr
      refine ⟨.inr hr, fun heq => hgone ?_⟩
      rw [← heq]
      exact List.mem_map.2 ⟨_, hr, rfl⟩
    · rintro ⟨heq | hr, hne⟩
      · exact absurd (Prod.mk.inj heq).1 hne
      · exact hr
  split
  · next hstate =>
    have hlaw := h.settles (p := p) (.inl hstate) (y := e) (.inl hsettle.symm) js rest hrest
    rw [hsettle, popJob, htail]
    exact hlaw
  · next hstate =>
    have hdown : (s.port p).state = .down := by
      by_contra hne
      exact hstate ((h.ok p).reclaiming.2 ⟨hne, e, hjobs ▸ .head _⟩)
    have hne : (s.port p).state ≠ .attached := by rw [hdown]; decide
    obtain ⟨hwait, hclaim⟩ := (h.ok p).quiet_of_away hne
    have htjobs : s.popJob.portJobs = js.filterMap Job.portJob? := by rw [portJobs, popJob, htail]
    refine h.of_same_device rfl rfl rfl (fun r => ?_) (htjobs ▸ hrest) (fun hu => (h.unready hu).2) h.admin
    by_cases hr : r = p
    · rw [hr]
      refine .of_cleared ((h.ok p).away hne) hwait hclaim (h.ok p).line ?_ (fun x hx => ?_) (h.ok p).settled
      · show (s.port p).state = .reclaiming ↔ (s.port p).state ≠ .down ∧ _
        simp [hdown]
      · rw [htjobs, rest] at hx
        exact absurd rfl hx.2
    · refine (h.ok r).untouched rfl rfl rfl (fun x => ?_) (fun _ => id)
      rw [htjobs, rest]
      exact and_iff_left hr

/-! ## Every change -/

namespace PortLaw

/-- A part of which ports see only the crossings' notices and the claims. -/
theorem seen (h : s.PortLaw) (hf : t.device = s.device ∧ t.tickPeriod = s.tickPeriod ∧ t.walk = s.walk ∧
      t.interfaces = s.interfaces ∧ t.ports = s.ports ∧ t.jobs = s.jobs)
    (hq : ∀ q, (t.queue q).claimant = (s.queue q).claimant) (hn : ∀ r, s.receives r (t.noticeUnit r)) : t.PortLaw := by
  obtain ⟨hd, hk, hw, hi, hp, hj⟩ := hf
  exact h.congr (.of_receives hi hp hq hn hj) hd hk hw

/-- Nothing that the laws of the ports speak of. -/
theorem unseen (h : s.PortLaw) (hd : t.device = s.device) (hk : t.tickPeriod = s.tickPeriod) (hw : t.walk = s.walk)
    (hi : t.interfaces = s.interfaces) (hp : t.ports = s.ports) (hq : ∀ q, (t.queue q).claimant = (s.queue q).claimant)
    (hn : t.notices = s.notices) (hj : t.jobs = s.jobs) : t.PortLaw :=
  h.congr (.of_eq hi hp hq hn hj) hd hk hw

/-- Every single change keeps the laws of the ports. -/
theorem change (hc : Change s t) (h : s.PortLaw) : t.PortLaw := by
  cases hc with
  | interface p i hline hwait => exact h.congr (.of_interface hline hwait) rfl rfl rfl
  | halted => exact h.entersHalted
  | walkStopped hd =>
    exact h.samePorts (.of_eq rfl rfl (fun _ => rfl) rfl rfl) (fun hu => absurd hu (not_unready_of_halted hd)) rfl
      (by simp) id
  | raise p n hn =>
    refine h.seen (by rw [raise_frame]; exact ⟨rfl, rfl, rfl, rfl, rfl, rfl⟩) (fun _ => by rw [raise_queue])
      (receives_raise hn)
  | push p =>
    exact h.congr (.of_unit _ (fun _ hc => by rw [hc, NoticeUnit.afterRead_cleared]) (·.afterRead)) rfl rfl rfl
  | pop p top rest ha =>
    refine h.congr (.of_unit _ (fun _ hc => ?_) (·.pop ha)) rfl rfl rfl
    rw [hc] at ha
    cases ha
  | putFresh p i q o m =>
    refine h.seen (by rw [putFresh_frame]; exact ⟨rfl, rfl, rfl, rfl, rfl, rfl⟩) (fun x => ?_) (fun r => ?_)
    · rw [putFresh_queue]
      split
      · next hx => rw [hx]
      · rfl
    · rw [putFresh_noticeUnit]
      exact s.receives_afterCrossings q _ r
  | putTaken p i q o m c f =>
    refine h.seen (by rw [putTaken_frame]; exact ⟨rfl, rfl, rfl, rfl, rfl, rfl⟩) (fun x => ?_) (fun r => ?_)
    · obtain ⟨-, -, hclaimant⟩ := s.lowered_sameTerms f.source x
      rw [putTaken_queue]
      split
      · next hx => rw [← hx]; exact hclaimant
      · exact hclaimant
    · rw [putTaken_noticeUnit]
      exact s.receives_afterCrossings q _ r
  | take p q i m e =>
    exact h.congr (.taken s p q i m e) (by rw [takeEffect_frame]) (by rw [takeEffect_frame]) (by rw [takeEffect_frame])
  | release p i m =>
    refine h.seen (by rw [releaseEffect_frame]; exact ⟨rfl, rfl, rfl, rfl, rfl, rfl⟩) (fun x => ?_)
      (fun r => .inl (by rw [releaseEffect_frame]; rfl))
    obtain ⟨-, -, hclaimant⟩ := s.lowered_sameTerms (s.slot p i).holding.source? x
    rwa [releaseEffect_queue]
  | drop p i m =>
    exact h.seen (by rw [dropHolding_frame]; exact ⟨rfl, rfl, rfl, rfl, rfl, rfl⟩) (fun _ => by rw [dropHolding_queue])
      (fun _ => .inl (dropHolding_noticeUnit ..))
  | endHolding p i m c f q =>
    refine h.seen (by rw [endHolding_frame]; exact ⟨rfl, rfl, rfl, rfl, rfl, rfl⟩) (fun x => ?_) (fun r => ?_)
    · exact (((s.removeTimeout p i).emptySlot p i).returnPath_sameTerms q x m).2.2
    · exact ((s.removeTimeout p i).emptySlot p i).receives_returnPath q m r
  | claim p o q hp =>
    have started := SamePorts.of_start s p .claim o
    exact h.congr (started.trans (.of_queue (.inr (.inr ⟨p, rfl, h.attached_of_presents hp⟩)))) rfl rfl rfl
  | unclaim q => exact h.congr (.of_queue (.inr (.inl rfl))) rfl rfl rfl
  | format p set period hd hset => exact h.formatStarted hd _ hset
  | visitFree w hn hd hw =>
    refine h.samePorts (.of_eq rfl rfl (fun _ => rfl) rfl rfl) id rfl (fun x hx => ?_) id
    cases hx
    exact h.adminSet w hw
  | visitRetire w hn hd hw =>
    refine h.samePorts (.of_eq rfl rfl (fun _ => rfl) rfl rfl) id rfl (fun x hx => ?_) id
    cases hx
    exact h.adminSet w hw
  | finishWalk w hd hw => exact h.walkFinished hd hw
  | defineQueue q x => exact h.congr (.of_queue (.inl rfl)) rfl rfl rfl
  | modifyQueue q x =>
    refine h.congr (.trans (.of_queue (q := q) (d := { s.queue q with settings := x }) (.inl rfl))
      (.withdrawn _ (withdrawalTarget (s.queue q).settings x) q)) ?_ ?_ ?_
    all_goals rw [modifyQueueEffect_frame]
  | purgeQueue q =>
    refine h.congr (.trans (.of_queue (q := q) (d := { s.queue q with state := .purging }) (.inl rfl)) ?_) rfl rfl rfl
    exact ⟨fun _ => rfl, fun _ _ hr => .inr hr, fun _ => ⟨rfl, rfl, rfl⟩, fun _ => .inl rfl, fun _ _ hu => hu,
      fun _ hu => hu, (portJobs_append (s := s) rfl).trans (List.append_nil _)⟩
  | deleteQueue q =>
    refine h.congr ?_ (by rw [deleteQueueEffect_frame]) (by rw [deleteQueueEffect_frame])
      (by rw [deleteQueueEffect_frame])
    have orphaned : s.SamePorts (s.orphan q) := .of_eq rfl rfl (fun _ => rfl) rfl rfl
    have deleted := orphaned.trans ((SamePorts.of_queue (q := q)
      (d := { (s.orphan q).queue q with outstanding := 0, claimant := none, state := .deleting })
      (.inr (.inl rfl))).trans (.withdrawn _ (s.queue q).settings.target q))
    refine deleted.trans ?_
    exact ⟨fun _ => rfl, fun _ _ hr => .inr hr, fun _ => ⟨rfl, rfl, rfl⟩, fun _ => .inl rfl, fun _ _ hu => hu,
      fun _ hu => hu, (portJobs_append rfl).trans (List.append_nil _)⟩
  | setPort p r quota admin hq ha => exact h.portSet ha
  | fencePort p r o hp hd hadmin hne hs =>
    have started : (s.startCommand p .fencePort o).PortLaw := h.congr (.of_start s p _ o) rfl rfl rfl
    exact started.fenced hs ⟨p, Ne.symm hne, hadmin, (h.ok p).settled.1 (h.attached_of_presents hp)⟩ hd
  | unfencePort r hs =>
    refine h.settles (.inr hs) (y := .attached) (.inr rfl) s.jobs (fun x e => ?_) h.nodup
    refine (and_iff_left_of_imp ?_).symm
    rintro hx rfl
    cases hs.symm.trans ((h.ok x).reclaiming.2 ⟨by rw [hs]; decide, e, hx⟩)
  | resetPort p o hp =>
    have started : (s.startCommand p .resetPort o).PortLaw := h.congr (.of_start s p _ o) rfl rfl rfl
    exact started.portRestarted (h.attached_of_presents hp)
  | lineAsserted p y hy =>
    refine h.lineAsserted (hy.trans ?_)
    split
    · next hs => exact ((h.ok p).settled.1 hs).symm
    · rfl
  | lineAssertedWithJob p hs =>
    have hsettle := (h.ok p).settled.1 hs
    refine (h.lineAsserted hsettle.symm).jobAppended ?_ (fun e he => ?_) ?_
    · rw [portGone_port_same]
    · rw [portGone_portJobs] at he
      exact (h.ok p).no_job_of_attached hs e he
    · rw [portGone_port_same]
  | lineReleased p hl => exact h.lineReleased hl
  | walkHead q m =>
    refine h.seen (by rw [walkHead_frame]; exact ⟨rfl, rfl, rfl, rfl, rfl, rfl⟩) (fun x => ?_) (fun r => ?_)
    · rw [walkHead_queue]
      split
      · next hx => rw [hx]
      · rfl
    · rw [walkHead_noticeUnit]
      exact s.receives_afterCrossings q _ r
  | endWalk q delete js hd hj =>
    have hclaim : ((s.queue q).afterWalk delete).claimant = (s.queue q).claimant ∨
        ((s.queue q).afterWalk delete).claimant = none ∨
        ∃ p, ((s.queue q).afterWalk delete).claimant = some p ∧ (s.port p).state = .attached := by
      cases delete
      · exact .inl rfl
      · exact .inr (.inl rfl)
    refine h.congr (.trans (.of_queue hclaim) ?_) rfl rfl rfl
    refine ⟨fun _ => rfl, fun _ _ hr => .inr hr, fun _ => ⟨rfl, rfl, rfl⟩, fun _ => .inl rfl, fun _ _ hu => hu,
      fun _ hu => hu, ?_⟩
    show s.jobs.tail.filterMap Job.portJob? = s.jobs.filterMap Job.portJob?
    rw [hj]
    cases delete <;> rfl
  | portJobDone p e js hd hj => exact h.portJobDone hj
  | powerOn lines =>
    exact (ofPoweredOn lines).unseen (t := { poweredOn lines with pending := s.pending }) rfl rfl rfl rfl rfl
      (fun _ => rfl) rfl rfl
  | deviceReset => exact ofDeviceReset s
  | updateMessage => rw [updateMessage_frame]; exact h.unseen rfl rfl rfl rfl rfl (fun _ => rfl) rfl rfl
  | _ => exact h.unseen rfl rfl rfl rfl rfl (fun _ => rfl) rfl rfl

end PortLaw

end State

/-- Settles O9: one port at a time leaves or enters ATTACHED, and takes its notices, claims and command with it. -/
theorem stepKeepsThePortLaw : Obligations.StepKeepsThePortLaw := by
  intro s t hs h
  exact step_keeps (P := State.PortLaw) (fun _ _ hp => hp.unseen rfl rfl rfl rfl rfl (fun _ => rfl) rfl rfl)
    (fun _ _ hc => .change hc) hs h

end Sys2Proof.Machine
end

section
/-! Proofs/QueueLaw.lean: the laws of the queues, queue by queue, and what keeps them (R41, R44, R49, R50). -/

namespace Sys2Proof.Machine

theorem Queue.SameTerms.evaluated {a b : Queue} (h : a.SameTerms b) :
    b.evaluated = a.evaluated := by
  obtain ⟨hstate, -⟩ := h
  simp only [Queue.evaluated, hstate]

/-- The state, settings and counts are the same; an UNDEFINED queue stays as it is, and a DELETING one gets no
claimant. -/
def Queue.SameCounts (a b : Queue) : Prop :=
  b.state = a.state ∧ b.settings = a.settings ∧ b.outstanding = a.outstanding ∧ b.list = a.list ∧
    (a.state = .undefined → a = .cleared → b = a) ∧ (a.state = .deleting → a.claimant = none → b.claimant = none)

theorem Queue.SameCounts.refl (a : Queue) : a.SameCounts a :=
  ⟨rfl, rfl, rfl, rfl, fun _ _ => rfl, fun _ => id⟩

namespace State

variable {s t : State} {q : QueueNo}

/-! ## Walk jobs -/

/-- The PURGE and DELETE jobs of the reclaim list. -/
def walkJobs (s : State) : List Job := s.jobs.filter (fun j => j.queue?.isSome)

theorem mem_walkJobs {j : Job} : j ∈ s.walkJobs ↔ j ∈ s.jobs ∧ j.queue?.isSome = true := List.mem_filter

theorem filterMap_queue? (s : State) : s.jobs.filterMap Job.queue? = s.walkJobs.filterMap Job.queue? := by
  unfold walkJobs
  induction s.jobs with
  | nil => rfl
  | cons j js ih =>
    rw [List.filterMap_cons, List.filter_cons]
    cases j with
    | port => exact ih
    | purge q => exact congrArg (q :: ·) ih
    | delete q => exact congrArg (q :: ·) ih

theorem walkJobs_append {js : List Job} (h : t.jobs = s.jobs ++ js) :
    t.walkJobs = s.walkJobs ++ js.filter (fun j => j.queue?.isSome) := by
  rw [walkJobs, h, List.filter_append]
  rfl

/-! ## Records that name a queue -/

/-- The record names a queue that reports to port `p` at the record's level (R44, R129). -/
def namesQueue (s : State) (p : Port) (n : Notice) : Prop :=
  ∃ q : QueueNo, n.source = BitVec.ofNat 6 q.val ∧ (s.queue q).evaluated = true ∧
    (s.queue q).settings.target = some p ∧ n.level = (s.queue q).settings.level

/-- A record that names a queue keeps naming it while the queue keeps its state and settings. -/
theorem namesQueue_congr {p : Port} {n : Notice} (h : s.namesQueue p n)
    (hq : ∀ q, (s.queue q).evaluated = true → (t.queue q).evaluated = true ∧
      (t.queue q).settings.target = (s.queue q).settings.target ∧
      (t.queue q).settings.level = (s.queue q).settings.level) : t.namesQueue p n := by
  obtain ⟨q, hsource, hev, htarget, hlevel⟩ := h
  obtain ⟨hev', htarget', hlevel'⟩ := hq q hev
  exact ⟨q, hsource, hev', htarget'.trans htarget, hlevel.trans hlevel'.symm⟩

/-- What a port receives is what it had, or names a queue (R58). -/
theorem receives_records {r : Port} {u : NoticeUnit} (hu : s.receives r u) {n : Notice} (hn : n ∈ u.pendingSet)
    (hk : n.kind = .queue) : n ∈ (s.noticeUnit r).pendingSet ∨ s.namesQueue r n := by
  rcases hu with rfl | ⟨-, x, ⟨-, hx⟩, rfl⟩
  · exact .inl hn
  · rcases (NoticeUnit.mem_taking _ _ _).1 hn with ⟨hn, -⟩ | rfl
    · exact .inl hn
    · obtain ⟨hkind, hsource, hlevel⟩ := mergedNotice_key (s.noticeUnit r).pendingSet x
      obtain ⟨q, hxs, hev, htarget, hxl⟩ := hx (hkind.symm.trans hk)
      exact .inr ⟨q, hsource.trans hxs, hev, htarget, hlevel.trans hxl⟩

/-! ## The laws of one queue -/

/-- The laws that speak of one queue alone. -/
structure QueueOk (s : State) (q : QueueNo) : Prop where
  outstanding : (s.queue q).outstanding = s.takenFrom q
  occupancy : (s.queue q).state ≠ .undefined → (s.queue q).occupancy ≤ (s.queue q).settings.limit
  settings : (s.queue q).state ≠ .undefined → (s.queue q).settings.accepted q = true
  undefined : (s.queue q).state = .undefined → s.queue q = .cleared
  deleting : (s.queue q).state = .deleting → (s.queue q).outstanding = 0 ∧ (s.queue q).claimant = none
  purgeJob : (s.queue q).state = .purging ↔ Job.purge q ∈ s.walkJobs
  deleteJob : (s.queue q).state = .deleting ↔ Job.delete q ∈ s.walkJobs

theorem QueueLaw.ok (h : s.QueueLaw) (q : QueueNo) : s.QueueOk q where
  outstanding := h.outstanding q
  occupancy := h.occupancy q
  settings := h.settings q
  undefined := h.undefined q
  deleting := h.deleting q
  purgeJob := by
    rw [mem_walkJobs, h.purgeJob]
    exact (and_iff_left rfl).symm
  deleteJob := by
    rw [mem_walkJobs, h.deleteJob]
    exact (and_iff_left rfl).symm

theorem QueueLaw.nodup (h : s.QueueLaw) : (s.walkJobs.filterMap Job.queue?).Nodup := by
  rw [← filterMap_queue?]
  exact h.once

theorem QueueLaw.of_ok (ok : ∀ q, t.QueueOk q) (once : (t.walkJobs.filterMap Job.queue?).Nodup)
    (unready : t.unready → ∀ q, (t.queue q).state = .undefined)
    (records : ∀ p n, n ∈ (t.noticeUnit p).pendingSet → n.kind = .queue → t.namesQueue p n) : t.QueueLaw where
  outstanding := fun q => (ok q).outstanding
  occupancy := fun q => (ok q).occupancy
  settings := fun q => (ok q).settings
  undefined := fun q => (ok q).undefined
  deleting := fun q => (ok q).deleting
  purgeJob := fun q => (ok q).purgeJob.trans (mem_walkJobs.trans (and_iff_left rfl))
  deleteJob := fun q => (ok q).deleteJob.trans (mem_walkJobs.trans (and_iff_left rfl))
  once := by
    rw [filterMap_queue?]
    exact once
  unready := unready
  records := records

theorem QueueOk.congr (h : s.QueueOk q) (hstate : (t.queue q).state = (s.queue q).state)
    (hsettings : (t.queue q).settings = (s.queue q).settings) (hout : (t.queue q).outstanding = t.takenFrom q)
    (hocc : (s.queue q).state ≠ .undefined → (t.queue q).occupancy ≤ (s.queue q).settings.limit)
    (hundef : (s.queue q).state = .undefined → t.queue q = .cleared)
    (hdel : (s.queue q).state = .deleting → (t.queue q).outstanding = 0 ∧ (t.queue q).claimant = none)
    (hpurge : Job.purge q ∈ t.walkJobs ↔ Job.purge q ∈ s.walkJobs)
    (hdelete : Job.delete q ∈ t.walkJobs ↔ Job.delete q ∈ s.walkJobs) : t.QueueOk q where
  outstanding := hout
  occupancy := by rwa [hstate, hsettings]
  settings := by rw [hstate, hsettings]; exact h.settings
  undefined := by rwa [hstate]
  deleting := by rwa [hstate]
  purgeJob := by rw [hstate, hpurge]; exact h.purgeJob
  deleteJob := by rw [hstate, hdelete]; exact h.deleteJob

/-- The queue is as it was, and no holding of it has come or gone. -/
theorem QueueOk.untouched (h : s.QueueOk q) (hq : t.queue q = s.queue q) (ht : t.takenFrom q = s.takenFrom q)
    (hpurge : Job.purge q ∈ t.walkJobs ↔ Job.purge q ∈ s.walkJobs)
    (hdelete : Job.delete q ∈ t.walkJobs ↔ Job.delete q ∈ s.walkJobs) : t.QueueOk q :=
  h.congr (by rw [hq]) (by rw [hq]) (by rw [hq, ht]; exact h.outstanding) (by rw [hq]; exact h.occupancy)
    (by rw [hq]; exact h.undefined) (by rw [hq]; exact h.deleting) hpurge hdelete

/-! ## Holdings by their source -/

theorem takenFrom_eq_slotsWith (s : State) (q : QueueNo) :
    s.takenFrom q = s.slotsWith (fun x => decide (x.holding.source? = some q)) := (rfl)

theorem takenFrom_congr (h : ∀ r j, (t.slot r j).holding.source? = (s.slot r j).holding.source?) (q : QueueNo) :
    t.takenFrom q = s.takenFrom q :=
  slotsWith_congr fun r j => by rw [h]

theorem takenFrom_holdings (h : t.holdings = s.holdings) (q : QueueNo) : t.takenFrom q = s.takenFrom q :=
  takenFrom_congr (fun r j => by rw [slot_congr h]) q

/-- A holding's source has it among its outstanding messages (R49). -/
theorem QueueLaw.outstanding_pos (h : s.QueueLaw) {p : Port} {i : SlotNo}
    (hs : (s.slot p i).holding.source? = some q) : 0 < (s.queue q).outstanding := by
  rw [h.outstanding, takenFrom_eq_slotsWith]
  exact slotsWith_pos (decide_eq_true hs)

/-- One slot is written. -/
theorem takenFrom_written {p : Port} {i : SlotNo} (h : s.otherSlotsKept t p i) (q : QueueNo) :
    t.takenFrom q + (decide ((s.slot p i).holding.source? = some q)).toNat =
      s.takenFrom q + (decide ((t.slot p i).holding.source? = some q)).toNat :=
  slotsWith_written (P := fun x => decide (x.holding.source? = some q)) h

/-- A slot without a source is written by another without. -/
theorem takenFrom_quiet {p : Port} {i : SlotNo} (h : s.otherSlotsKept t p i)
    (hs : (s.slot p i).holding.source? = none) (ht : (t.slot p i).holding.source? = none) (q : QueueNo) :
    t.takenFrom q = s.takenFrom q := by
  have := takenFrom_written h q
  rw [hs, ht] at this
  exact Nat.add_right_cancel this

/-- A holding ends, and its source's outstanding count falls (R49). -/
theorem QueueLaw.outstanding_lowered (h : s.QueueLaw) {p : Port} {i : SlotNo} (ho : s.otherSlotsKept t p i)
    (ht : (t.slot p i).holding.source? = none) (q : QueueNo) :
    (s.lowered (s.slot p i).holding.source? q).outstanding = t.takenFrom q := by
  have hcount := takenFrom_written ho q
  rw [ht] at hcount
  unfold lowered
  split
  · next hs =>
    have := h.outstanding q
    simp only [hs, decide_true, Bool.toNat_true, reduceCtorEq, decide_false, Bool.toNat_false] at hcount ⊢
    omega
  · next hs =>
    rw [h.outstanding]
    simp only [hs, reduceCtorEq, decide_false, Bool.toNat_false] at hcount
    omega

/-! ## What keeps the laws -/

/-- No message moves and no queue changes but in its claimant. -/
theorem QueueLaw.calm (h : s.QueueLaw) (hu : t.unready → s.unready) (hq : ∀ q, (s.queue q).SameCounts (t.queue q))
    (ht : ∀ q, t.takenFrom q = s.takenFrom q) (hj : t.walkJobs = s.walkJobs)
    (hn : ∀ p n, n ∈ (t.noticeUnit p).pendingSet → n.kind = .queue →
      n ∈ (s.noticeUnit p).pendingSet ∨ s.namesQueue p n) : t.QueueLaw := by
  refine .of_ok (fun q => ?_) (hj ▸ h.nodup) (fun hun q => ?_) fun p n hmem hk => ?_
  · obtain ⟨hstate, hsettings, hout, hlist, hundef, hdel⟩ := hq q
    refine (h.ok q).congr hstate hsettings (by rw [hout, ht, h.outstanding]) (fun hs => ?_) (fun hs => ?_) (fun hs => ?_)
      (by rw [hj]) (by rw [hj])
    · have := h.occupancy q hs
      simpa only [Queue.occupancy, Queue.queued, hout, hlist] using this
    · have := h.undefined q hs
      rw [hundef hs this, this]
    · obtain ⟨hzero, hnone⟩ := h.deleting q hs
      exact ⟨hout.trans hzero, hdel hs hnone⟩
  · obtain ⟨hstate, -⟩ := hq q
    exact hstate.trans (h.unready (hu hun) q)
  · refine namesQueue_congr ((hn p n hmem hk).elim (fun hs => h.records p n hs hk) id) fun q hev => ?_
    obtain ⟨hstate, hsettings, -⟩ := hq q
    simp only [Queue.evaluated, hstate] at hev ⊢
    exact ⟨hev, by rw [hsettings], by rw [hsettings]⟩

/-- Messages move in a RUNNING part; every queue keeps its state, settings and claimant. -/
theorem QueueLaw.moved (h : s.QueueLaw) (hd : t.device = .running) (hterms : ∀ q, (s.queue q).SameTerms (t.queue q))
    (hout : ∀ q, (t.queue q).outstanding = t.takenFrom q)
    (hocc : ∀ q, (s.queue q).state ≠ .undefined → (t.queue q).occupancy ≤ (s.queue q).settings.limit)
    (hundef : ∀ q, (s.queue q).state = .undefined → s.queue q = .cleared → t.queue q = .cleared)
    (hdel : ∀ q, (s.queue q).state = .deleting → (t.queue q).outstanding ≤ (s.queue q).outstanding)
    (hj : t.jobs = s.jobs) (hn : ∀ r, s.receives r (t.noticeUnit r)) : t.QueueLaw := by
  have hjobs : t.walkJobs = s.walkJobs := by rw [walkJobs, hj, walkJobs]
  refine .of_ok (fun q => ?_) (hjobs ▸ h.nodup) (fun hun => absurd hun (not_unready_of_running hd))
    fun p n hmem hk => ?_
  · obtain ⟨hstate, hsettings, hclaim⟩ := hterms q
    refine (h.ok q).congr hstate hsettings (hout q) (hocc q) (fun hs => hundef q hs (h.undefined q hs)) (fun hs => ?_)
      (by rw [hjobs]) (by rw [hjobs])
    obtain ⟨hzero, hnone⟩ := h.deleting q hs
    exact ⟨Nat.le_zero.1 ((hdel q hs).trans_eq hzero), hclaim.trans hnone⟩
  · refine namesQueue_congr ((receives_records (hn p) hmem hk).elim (fun hs => h.records p n hs hk) id) fun q hev => ?_
    rw [(hterms q).evaluated, (hterms q).2.1]
    exact ⟨hev, rfl, rfl⟩

/-- One queue is written by a command of a queue that is not UNDEFINED, or of a RUNNING part. -/
theorem QueueLaw.written (h : s.QueueLaw) (hu : ¬ s.unready) (hd : t.device = s.device) (hok : t.QueueOk q)
    (hq : ∀ x, x ≠ q → t.queue x = s.queue x) (ht : ∀ x, x ≠ q → t.takenFrom x = s.takenFrom x)
    (hj : ∀ j, j.queue? ≠ some q → (j ∈ t.walkJobs ↔ j ∈ s.walkJobs))
    (hnodup : (t.walkJobs.filterMap Job.queue?).Nodup)
    (hn : ∀ p n, n ∈ (t.noticeUnit p).pendingSet → n.kind = .queue → n ∈ (s.noticeUnit p).pendingSet)
    (hkeep : ∀ p n, n ∈ (t.noticeUnit p).pendingSet → n.kind = .queue → n.source = BitVec.ofNat 6 q.val →
      (s.queue q).evaluated = true → (s.queue q).settings.target = some p → n.level = (s.queue q).settings.level →
      (t.queue q).evaluated = true ∧ (t.queue q).settings.target = some p ∧ n.level = (t.queue q).settings.level) :
    t.QueueLaw := by
  refine .of_ok (fun x => ?_) hnodup (fun hun => absurd ((unready_congr hd).1 hun) hu) fun p n hmem hk => ?_
  · by_cases hx : x = q
    · exact hx ▸ hok
    · exact (h.ok x).untouched (hq x hx) (ht x hx) (hj _ (by simpa [Job.queue?] using hx))
        (hj _ (by simpa [Job.queue?] using hx))
  · obtain ⟨x, hsource, hev, htarget, hlevel⟩ := h.records p n (hn p n hmem hk) hk
    by_cases hx : x = q
    · subst hx
      exact ⟨x, hsource, hkeep p n hmem hk hsource hev htarget hlevel⟩
    · exact ⟨x, hsource, by rwa [hq x hx], by rwa [hq x hx], by rwa [hq x hx]⟩

/-- A part in which nothing is defined, held or pending. -/
theorem QueueLaw.of_cleared (hq : ∀ q, t.queue q = .cleared) (hh : ∀ r j, (t.slot r j).holding = .empty)
    (hj : t.walkJobs = []) (hn : ∀ p, t.noticeUnit p = .cleared) : t.QueueLaw := by
  have hnone (q : QueueNo) : t.takenFrom q = 0 :=
    slotsWith_eq_zero.2 fun r j => by rw [hh]; rfl
  refine .of_ok (fun q => ?_) (by simp [hj]) (fun _ q => by rw [hq]; rfl) fun p n hmem => ?_
  · refine ⟨by rw [hq, hnone]; rfl, ?_, ?_, fun _ => hq q, ?_, ?_, ?_⟩ <;> simp [hq, hj, Queue.cleared]
  · rw [hn] at hmem
    cases hmem

end State

end Sys2Proof.Machine
end

section
/-! Proofs/QueueMoves.lean: the laws of the queues where messages move: TAKE, PUT, ends of holdings, walks. -/

namespace Sys2Proof.Machine

/-! ## Dispositions -/

namespace State

variable {s t : State} {q : QueueNo} {p : Port} {i : SlotNo} {m : CellNo}

/-- A requeue is into an ACTIVE queue (R110). -/
theorem dispositionOf_requeued (h : s.dispositionOf q m = .requeued) : (s.queue q).state = .active := by
  unfold dispositionOf at h
  split at h
  · cases h
  · next r _ =>
    unfold disposition at h
    split at h
    · next ha => exact ha
    all_goals cases h

/-- A spill is into an ACTIVE queue below its limit (R114). -/
theorem dispositionOf_spilled {x : QueueNo} (h : s.dispositionOf q m = .spilled x) :
    (s.queue x).state = .active ∧ (s.queue x).occupancy < (s.queue x).settings.limit := by
  unfold dispositionOf at h
  split at h
  · cases h
  · next r _ =>
    unfold disposition at h
    split at h
    · split at h
      · cases h
      · split at h
        · cases h
        · split at h
          · next hx =>
            cases h
            simpa [takesSpill] using hx.2
          · cases h
    all_goals cases h

/-! ## What the return path leaves of each queue -/

theorem lowerOutstanding_queue (s : State) (q x : QueueNo) : (s.lowerOutstanding q).queue x = s.lowered (some q) x :=
  s.lowerSource_queue (some q) x

theorem lowered_of_ne {source : Option QueueNo} {x : QueueNo} (h : source ≠ some x) : s.lowered source x = s.queue x :=
  if_neg h

theorem lowered_list (s : State) (source : Option QueueNo) (x : QueueNo) :
    (s.lowered source x).list = (s.queue x).list := by
  unfold lowered
  split <;> rfl

theorem lowered_outstanding_le (s : State) (source : Option QueueNo) (x : QueueNo) :
    (s.lowered source x).outstanding ≤ (s.queue x).outstanding := by
  unfold lowered
  split
  · exact Nat.sub_le _ 1
  · exact le_rfl

/-- What a change may do to a queue that its source's count has left as `d`: the list grows by one message where there
is room, and an inactive queue of which nothing is returned stays as it is. -/
structure Returned (d : Queue) (source : Bool) (d' : Queue) : Prop where
  outstanding : d'.outstanding = d.outstanding
  room : d'.list.length ≤ d.list.length ∨
    d'.list.length = d.list.length + 1 ∧ d.state = .active ∧ (source = true ∨ d.occupancy < d.settings.limit)
  inactive : d.state ≠ .active → source = false → d' = d

theorem returned_linked (d : Queue) (hd : (t.queue q) = d) (ha : d.state = .active) {source : Bool}
    (hroom : source = true ∨ d.occupancy < d.settings.limit) (e : ListEnd) :
    Returned d source ((t.link q e m).queue q) := by
  subst hd
  rw [link_queue_same]
  exact ⟨rfl, .inr ⟨linked_length _ _ _ _, ha, hroom⟩, fun hne => absurd ha hne⟩

theorem Returned.refl (d : Queue) (source : Bool) : Returned d source d := ⟨rfl, .inl le_rfl, fun _ _ => rfl⟩

theorem returnPath_queue (s : State) (q x : QueueNo) (m : CellNo) :
    Returned (s.lowered (some q) x) (decide (x = q)) ((s.returnPath q m).queue x) := by
  have hlow (y) := s.lowerOutstanding_queue q y
  have hupd (f : Message → Message) (y) : ((s.lowerOutstanding q).updateMessage m f).queue y = s.lowered (some q) y :=
    (updateMessage_queue _ m f y).trans (hlow y)
  unfold returnPath settleReturn
  dsimp only
  split
  · next hd =>
    have ha := dispositionOf_requeued hd
    rw [hlow] at ha
    by_cases hx : x = q
    · subst hx
      rw [raiseRedelivered, setQueue_queue_same]
      obtain ⟨hout, hroom, -⟩ := returned_linked (m := m) (source := true) _
        (hupd (fun r => { r with redelivery := r.redelivery + 1 }) x) ha (.inl rfl) .head
      rw [decide_eq_true rfl]
      exact ⟨hout, hroom, fun _ hs => by cases hs⟩
    · rw [raiseRedelivered, setQueue_queue_other _ _ _ _ hx, link_queue_other _ _ _ _ _ hx, hupd]
      exact .refl _ _
  · next y hd =>
    obtain ⟨ha, hroom⟩ := dispositionOf_spilled hd
    rw [hlow] at ha hroom
    by_cases hx : x = y
    · subst hx
      exact returned_linked _ (hupd _ x) ha (.inr hroom) .tail
    · rw [link_queue_other _ _ _ _ _ hx, hupd]
      exact .refl _ _
  · by_cases hx : x = q
    · subst hx
      rw [raiseDiscarded, setQueue_queue_same, freeMessage_queue, hlow, decide_eq_true rfl]
      exact ⟨rfl, .inl le_rfl, fun _ hs => by cases hs⟩
    · rw [raiseDiscarded, setQueue_queue_other _ _ _ _ hx, freeMessage_queue, hlow]
      exact .refl _ _

/-! ## The moves -/

namespace QueueLaw

/-- TAKE moves a message from the list to the outstanding ones (R85). -/
theorem taken (h : s.QueueLaw) (hd : s.device = .running) (ha : (s.queue q).state = .active) {e : ListEnd}
    (hm : s.endMessage q e = some m) (hi : (s.slot p i).holding = .empty) : (takeEffect p q i m e s).QueueLaw := by
  have hslot := slot_of_holdings (takeEffect_holdings s p i q m e)
  have hothers := otherSlotsKept_of_holdings (takeEffect_holdings s p i q m e)
  have hlength := (unlinked_perm hm).length_eq
  have hsame : (takeEffect p q i m e s).queue q = _ := (takeEffect_queue s p i q q m e).trans (if_pos rfl)
  have hother (x : QueueNo) (hx : x ≠ q) : (takeEffect p q i m e s).queue x = s.queue x :=
    (takeEffect_queue s p i q x m e).trans (if_neg hx)
  refine h.moved (by rw [takeEffect_frame]; exact hd) (fun x => ?_) (fun x => ?_) (fun x hs => ?_) (fun x hs hc => ?_)
    (fun x hs => ?_) (by rw [takeEffect_frame]) (fun r => ?_)
  · rw [takeEffect_queue]
    split
    · next hx => rw [hx]; exact ⟨rfl, rfl, rfl⟩
    · exact ⟨rfl, rfl, rfl⟩
  · have hcount := takenFrom_written hothers x
    rw [hi, hslot] at hcount
    have := h.outstanding x
    by_cases hx : x = q
    · subst hx
      rw [hsame]
      simp [Holding.source?, takenFields] at hcount
      show (s.queue x).outstanding + 1 = _
      omega
    · rw [hother x hx]
      simp [Holding.source?, takenFields, Ne.symm hx] at hcount
      omega
  · by_cases hx : x = q
    · subst hx
      rw [hsame]
      have := h.occupancy x hs
      simp only [Queue.occupancy, Queue.queued, List.length_cons] at this hlength ⊢
      omega
    · rw [hother x hx]
      exact h.occupancy x hs
  · by_cases hx : x = q
    · subst hx
      cases ha.symm.trans hs
    · rw [hother x hx, hc]
  · by_cases hx : x = q
    · subst hx
      cases ha.symm.trans hs
    · rw [hother x hx]
  · rw [takeEffect_noticeUnit]
    exact s.receives_afterCrossings q _ r

/-- PUT puts a message down into a queue that has room, and its holding's source counts it no more (R81, R82). -/
theorem putDown (h : s.QueueLaw) (hd : t.device = .running) (ha : (s.queue q).state = .active)
    (hl : (s.queue q).occupancy < (s.queue q).settings.limit) (hh : t.holdings = (s.emptySlot p i).holdings)
    (hj : t.jobs = s.jobs) {e : ListEnd} {armed : Bool}
    (hq : ∀ x, t.queue x =
      if x = q then { s.lowered (s.slot p i).holding.source? q with list := s.linked q e m, lowArmed := armed }
      else s.lowered (s.slot p i).holding.source? x)
    (hn : ∀ r, s.receives r (t.noticeUnit r)) : t.QueueLaw := by
  obtain ⟨hslot, hothers⟩ := slotEmptied_of_holdings hh
  have hsame : t.queue q = _ := (hq q).trans (if_pos rfl)
  have hother (x : QueueNo) (hx : x ≠ q) : t.queue x = _ := (hq x).trans (if_neg hx)
  have hterms (x) := s.lowered_sameTerms (s.slot p i).holding.source? x
  have hout (x) := h.outstanding_lowered hothers (by rw [hslot]; rfl) x
  have hle (x) := s.lowered_outstanding_le (s.slot p i).holding.source? x
  refine h.moved hd (fun x => ?_) (fun x => ?_) (fun x hs => ?_) (fun x hs hc => ?_) (fun x hs => ?_) hj hn
  · by_cases hx : x = q
    · subst hx
      rw [hsame]
      exact hterms x
    · rw [hother x hx]
      exact hterms x
  · by_cases hx : x = q
    · subst hx
      rw [hsame]
      exact hout x
    · rw [hother x hx]
      exact hout x
  · by_cases hx : x = q
    · subst hx
      have hlength := s.linked_length x e m
      have := hle x
      rw [hsame]
      simp only [Queue.occupancy, Queue.queued] at hl hlength ⊢
      omega
    · have := h.occupancy x hs
      have := hle x
      rw [hother x hx]
      simp only [Queue.occupancy, Queue.queued, lowered_list] at *
      omega
  · by_cases hx : x = q
    · subst hx
      cases ha.symm.trans hs
    · rw [hother x hx]
      refine (lowered_of_ne fun hsource => ?_).trans hc
      have := h.outstanding_pos hsource
      simp [hc, Queue.cleared] at this
  · by_cases hx : x = q
    · subst hx
      cases ha.symm.trans hs
    · rw [hother x hx]
      exact hle x

/-- A holding is freed, and its source counts it no more (R88, R89). -/
theorem released (h : s.QueueLaw) (hd : t.device = .running) (hh : t.holdings = (s.emptySlot p i).holdings)
    (hj : t.jobs = s.jobs) (hq : ∀ x, t.queue x = s.lowered (s.slot p i).holding.source? x)
    (hn : ∀ r, s.receives r (t.noticeUnit r)) : t.QueueLaw := by
  obtain ⟨hslot, hothers⟩ := slotEmptied_of_holdings hh
  have hle (x) := s.lowered_outstanding_le (s.slot p i).holding.source? x
  refine h.moved hd (fun x => ?_) (fun x => ?_) (fun x hs => ?_) (fun x hs hc => ?_) (fun x hs => ?_) hj hn
  · rw [hq]
    exact s.lowered_sameTerms _ x
  · rw [hq]
    exact h.outstanding_lowered hothers (by rw [hslot]; rfl) x
  · have := h.occupancy x hs
    have := hle x
    rw [hq]
    simp only [Queue.occupancy, Queue.queued, lowered_list] at *
    omega
  · rw [hq]
    refine (lowered_of_ne fun hsource => ?_).trans hc
    have := h.outstanding_pos hsource
    simp [hc, Queue.cleared] at this
  · rw [hq]
    exact hle x

/-- A holding ends by the return path of its source (R110). -/
theorem holdingEnded (h : s.QueueLaw) (hd : s.device = .running) (hs : (s.slot p i).holding.source? = some q) :
    (s.endHolding p i m q).QueueLaw := by
  obtain ⟨hslot, hothers⟩ := slotEmptied_of_holdings (s.endHolding_holdings p i m q)
  have hqueue (x : QueueNo) : Returned (s.lowered (some q) x) (decide (x = q)) ((s.endHolding p i m q).queue x) :=
    ((s.removeTimeout p i).emptySlot p i).returnPath_queue q x m
  have hterms (x : QueueNo) : (s.queue x).SameTerms ((s.endHolding p i m q).queue x) :=
    ((s.removeTimeout p i).emptySlot p i).returnPath_sameTerms q x m
  have hout (x) := h.outstanding_lowered hothers (by rw [hslot]; rfl) x
  rw [hs] at hout
  have hpos := h.outstanding_pos hs
  refine h.moved (by rw [endHolding_frame]; exact hd) hterms (fun x => ?_) (fun x hdef => ?_) (fun x hundef hc => ?_)
    (fun x _ => ?_) (by rw [endHolding_frame]) (fun r => ?_)
  · rw [(hqueue x).outstanding]
    exact hout x
  · obtain ⟨houtx, hroom, -⟩ := hqueue x
    obtain ⟨-, hlimit, -⟩ := s.lowered_sameTerms (some q) x
    have hocc := h.occupancy x hdef
    have hle := s.lowered_outstanding_le (some q) x
    simp only [Queue.occupancy, Queue.queued, lowered_list, hlimit] at hroom hocc ⊢
    rcases hroom with hroom | ⟨hroom, -, hsource | hlt⟩
    · omega
    · have hx : x = q := of_decide_eq_true hsource
      subst hx
      have : (s.lowered (some x) x).outstanding = (s.queue x).outstanding - 1 := by rw [lowered, if_pos rfl]
      omega
    · omega
  · have hx : x ≠ q := by
      rintro rfl
      simp [hc, Queue.cleared] at hpos
    have hlow : s.lowered (some q) x = s.queue x := lowered_of_ne fun heq => hx (Option.some.inj heq).symm
    have := (hqueue x).inactive (by rw [hlow, hundef]; decide) (decide_eq_false hx)
    rw [this, hlow, hc]
  · rw [(hqueue x).outstanding]
    exact s.lowered_outstanding_le (some q) x
  · exact ((s.removeTimeout p i).emptySlot p i).receives_returnPath q m r

/-- A walk frees the head message of a queue that is not UNDEFINED (R145). -/
theorem headWalked (h : s.QueueLaw) (hd : s.device = .running) (hm : (s.queue q).head? = some m) :
    (s.walkHead q m).QueueLaw := by
  have hsame : (s.walkHead q m).queue q = _ := (s.walkHead_queue q q m).trans (if_pos rfl)
  have hother (x : QueueNo) (hx : x ≠ q) : (s.walkHead q m).queue x = s.queue x :=
    (s.walkHead_queue q x m).trans (if_neg hx)
  have hholdings : (s.walkHead q m).holdings = s.holdings := by rw [walkHead_frame]
  refine h.moved (by rw [walkHead_frame]; exact hd) (fun x => ?_) (fun x => ?_) (fun x hs => ?_) (fun x hs hc => ?_)
    (fun x hs => ?_) (by rw [walkHead_frame]) (fun r => ?_)
  · rw [walkHead_queue]
    split
    · next hx => rw [hx]; exact ⟨rfl, rfl, rfl⟩
    · exact ⟨rfl, rfl, rfl⟩
  · rw [takenFrom_holdings hholdings, ← h.outstanding, walkHead_queue]
    split
    · next hx => rw [hx]
    · rfl
  · have := h.occupancy x hs
    by_cases hx : x = q
    · subst hx
      rw [hsame]
      simp only [Queue.occupancy, Queue.queued, List.length_tail] at this ⊢
      omega
    · rwa [hother x hx]
  · by_cases hx : x = q
    · subst hx
      rw [hc] at hm
      cases hm
    · rw [hother x hx, hc]
  · rw [walkHead_queue]
    split
    · next hx => rw [hx]
    · exact le_rfl
  · rw [walkHead_noticeUnit]
    exact s.receives_afterCrossings q _ r

end QueueLaw

end State

end Sys2Proof.Machine
end

section
/-! Proofs/QueueSteps.lean: the laws of the queues under the queue commands and the ends of walks, and change by
change. -/

namespace Sys2Proof.Machine

/-- A claim cleared changes no count (R52). -/
theorem Queue.sameCounts_unclaimed (d : Queue) (p : Port) :
    d.SameCounts (if d.claimant = some p then { d with claimant := none } else d) := by
  split
  · next h =>
    refine ⟨rfl, rfl, rfl, rfl, fun _ hc => ?_, fun _ _ => rfl⟩
    rw [hc] at h
    cases h
  · exact .refl d

/-- A claim of an ACTIVE queue. -/
theorem Queue.sameCounts_claimed (d : Queue) (h : d.state = .active) (c : Option Port) :
    d.SameCounts { d with claimant := c } :=
  ⟨rfl, rfl, rfl, rfl, fun hs _ => (by cases h.symm.trans hs), fun hs _ => (by cases h.symm.trans hs)⟩

theorem Holding.source?_orphaned (q : QueueNo) (h : Holding) :
    (h.orphaned q).source? = if h.source? = some q then none else h.source? := by
  cases h with
  | taken m c f =>
    unfold orphaned
    dsimp only
    by_cases hf : f.source = some q
    · rw [if_pos hf, source?, source?, if_pos hf]
    · rw [if_neg hf, source?, if_neg hf]
  | _ => rfl

namespace State

variable {s t : State} {q : QueueNo} {p : Port} {i : SlotNo} {m : CellNo}

theorem QueueLaw.not_unready (h : s.QueueLaw) (hq : (s.queue q).state ≠ .undefined) : ¬ s.unready :=
  fun hu => hq (h.unready hu q)

theorem setQueue_sameCounts {d : Queue} (h : (s.queue q).SameCounts d) (x : QueueNo) :
    (s.queue x).SameCounts ((s.setQueue q d).queue x) := by
  by_cases hx : x = q
  · rw [hx, setQueue_queue_same]
    exact h
  · rw [setQueue_queue_other _ _ _ _ hx]
    exact .refl _

/-- A walk job appended stands beside the others. -/
theorem walkJobs_appendJob {j : Job} (h : t.jobs = s.jobs ++ [j]) (hj : j.queue?.isSome = true) :
    t.walkJobs = s.walkJobs ++ [j] := by
  rw [walkJobs_append h]
  exact congrArg (s.walkJobs ++ ·) (List.filter_cons_of_pos hj)

namespace QueueLaw

/-- DEFINE QUEUE makes an UNDEFINED descriptor ACTIVE, with settings in their ranges (R151). -/
theorem defined (h : s.QueueLaw) (hd : s.device = .running) (hu : (s.queue q).state = .undefined) {x : QueueSettings}
    (hx : x.accepted q = true) : (defineQueueEffect q x s).QueueLaw := by
  have hcleared := h.undefined q hu
  have hsame : (defineQueueEffect q x s).queue q = _ := setQueue_queue_same s q _
  have hpurge := (h.ok q).purgeJob
  have hdelete := (h.ok q).deleteJob
  have hout := h.outstanding q
  rw [hu] at hpurge hdelete
  refine h.written (not_unready_of_running hd) rfl ?_ (fun y hy => setQueue_queue_other _ _ _ _ hy) (fun _ _ => rfl)
    (fun _ _ => Iff.rfl) h.nodup (fun _ _ hn _ => hn) (fun _ _ _ _ _ hev => ?_)
  · refine ⟨?_, fun _ => ?_, fun _ => ?_, fun hs => ?_, fun hs => ?_, ?_, ?_⟩
    · rw [hsame]
      exact hout
    · rw [hsame, hcleared]
      exact Nat.zero_le _
    · rw [hsame]
      exact hx
    · rw [hsame] at hs
      cases hs
    · rw [hsame] at hs
      cases hs
    · rw [hsame]
      exact (iff_of_false (by simp) (by decide)).trans hpurge
    · rw [hsame]
      exact (iff_of_false (by simp) (by decide)).trans hdelete
  · rw [Queue.evaluated, hu] at hev
    cases hev

/-- MODIFY QUEUE withdraws the records that the new settings no longer bear out (R153, R154). -/
theorem modified (h : s.QueueLaw) (ha : (s.queue q).state = .active) {x : QueueSettings} (hx : x.accepted q = true)
    (hl : (s.queue q).occupancy ≤ x.limit) : (modifyQueueEffect q x s).QueueLaw := by
  have hsame := modifyQueueEffect_queue_same s q x
  have hjobs : (modifyQueueEffect q x s).walkJobs = s.walkJobs := by
    rw [walkJobs, walkJobs, modifyQueueEffect_frame]
  have hheld (y) : (modifyQueueEffect q x s).takenFrom y = s.takenFrom y :=
    takenFrom_holdings (by rw [modifyQueueEffect_frame]) y
  have hlive : (s.queue q).state ≠ .undefined := by rw [ha]; decide
  refine h.written (h.not_unready hlive) (by rw [modifyQueueEffect_frame]) ?_ (modifyQueueEffect_queue_other s q x)
    (fun y _ => hheld y) (fun _ _ => by rw [hjobs]) (hjobs ▸ h.nodup)
    (fun p n hn _ => ((mem_modifyQueueEffect s q x p n).1 hn).1) (fun p n hn hk hsource hev htarget hlevel => ?_)
  · have hok := h.ok q
    refine ⟨?_, fun _ => ?_, fun _ => ?_, fun hs => ?_, fun hs => ?_, ?_, ?_⟩
    · rw [hsame, hheld]
      exact hok.outstanding
    · rw [hsame]
      exact hl
    · rw [hsame]
      exact hx
    · rw [hsame] at hs
      exact absurd hs hlive
    · rw [hsame] at hs ⊢
      exact hok.deleting hs
    · rw [hsame, hjobs]
      exact hok.purgeJob
    · rw [hsame, hjobs]
      exact hok.deleteJob
  · obtain ⟨-, hkept⟩ := (mem_modifyQueueEffect s q x p n).1 hn
    have hkept' : ¬(x.target ≠ some p ∨ x.level ≠ (s.queue q).settings.level ∨ x.conditions = 0) :=
      fun hw => hkept ⟨htarget, hw, hk, hsource⟩
    rw [not_or, not_or, not_not, not_not] at hkept'
    obtain ⟨htarget', hlevel', -⟩ := hkept'
    rw [hsame]
    exact ⟨hev, htarget', hlevel.trans hlevel'.symm⟩

/-- A queue without a walk job receives one (R141). -/
theorem nodup_appended (h : s.QueueLaw) {j : Job} (hj : j.queue? = some q)
    (hnone : Job.purge q ∉ s.walkJobs ∧ Job.delete q ∉ s.walkJobs) :
    ((s.walkJobs ++ [j]).filterMap Job.queue?).Nodup := by
  rw [List.filterMap_append, List.filterMap_cons_some hj, List.filterMap_nil]
  refine List.nodup_append'.2 ⟨h.nodup, List.nodup_singleton q, fun x hx hxq => ?_⟩
  obtain rfl := List.mem_singleton.1 hxq
  obtain ⟨k, hk, hkq⟩ := List.mem_filterMap.1 hx
  cases k with
  | port => cases hkq
  | purge => cases hkq; exact hnone.1 hk
  | delete => cases hkq; exact hnone.2 hk

/-- PURGE QUEUE gives an ACTIVE queue its one job (R155). -/
theorem purged (h : s.QueueLaw) (ha : (s.queue q).state = .active) : (purgeQueueEffect q s).QueueLaw := by
  have hsame : (purgeQueueEffect q s).queue q = _ := setQueue_queue_same s q _
  have hjobs : (purgeQueueEffect q s).walkJobs = s.walkJobs ++ [.purge q] := walkJobs_appendJob rfl rfl
  have hlive : (s.queue q).state ≠ .undefined := by rw [ha]; decide
  have hok := h.ok q
  have hnone : Job.purge q ∉ s.walkJobs ∧ Job.delete q ∉ s.walkJobs := by
    rw [← hok.purgeJob, ← hok.deleteJob, ha]
    decide
  refine h.written (h.not_unready hlive) rfl ?_ (fun y hy => setQueue_queue_other s _ _ _ hy) (fun _ _ => rfl)
    (fun j hj => ?_) ?_ (fun _ _ hn _ => hn) (fun p n _ _ _ _ htarget hlevel => ?_)
  · refine ⟨?_, fun _ => ?_, fun _ => ?_, fun hs => ?_, fun hs => ?_, ?_, ?_⟩
    · rw [hsame]
      exact hok.outstanding
    · rw [hsame]
      exact hok.occupancy hlive
    · rw [hsame]
      exact hok.settings hlive
    · rw [hsame] at hs
      cases hs
    · rw [hsame] at hs
      cases hs
    · rw [hsame, hjobs]
      simp
    · rw [hsame, hjobs]
      simp [hnone.2]
  · rw [hjobs, List.mem_append, List.mem_singleton]
    exact or_iff_left fun heq => hj (by rw [heq]; rfl)
  · rw [hjobs]
    exact h.nodup_appended rfl hnone
  · rw [hsame]
    exact ⟨rfl, htarget, hlevel⟩

/-- DELETE QUEUE orphans the queue's holdings and withdraws its records (R156). -/
theorem deleted (h : s.QueueLaw) (ha : (s.queue q).state = .active) : (deleteQueueEffect q s).QueueLaw := by
  have hsame : (deleteQueueEffect q s).queue q = _ := (s.deleteQueueEffect_queue q q).trans (if_pos rfl)
  have hjobs : (deleteQueueEffect q s).walkJobs = s.walkJobs ++ [.delete q] := by
    refine walkJobs_appendJob ?_ rfl
    unfold deleteQueueEffect appendJob
    dsimp only
    rw [withdrawFrom_jobs]
    rfl
  have hlive : (s.queue q).state ≠ .undefined := by rw [ha]; decide
  have hok := h.ok q
  have hnone : Job.purge q ∉ s.walkJobs ∧ Job.delete q ∉ s.walkJobs := by
    rw [← hok.purgeJob, ← hok.deleteJob, ha]
    decide
  have hsource (r : Port) (j : SlotNo) : ((deleteQueueEffect q s).slot r j).holding.source? =
      if (s.slot r j).holding.source? = some q then none else (s.slot r j).holding.source? := by
    rw [deleteQueueEffect_slot]
    exact Holding.source?_orphaned q _
  have hgone : (deleteQueueEffect q s).takenFrom q = 0 := by
    rw [takenFrom_eq_slotsWith, slotsWith_eq_zero]
    intro r j
    rw [hsource]
    split
    · rfl
    · next hne => exact decide_eq_false hne
  have hkept (x : QueueNo) (hx : x ≠ q) : (deleteQueueEffect q s).takenFrom x = s.takenFrom x := by
    refine slotsWith_congr fun r j => ?_
    rw [hsource]
    split
    · next heq => rw [heq]; exact (decide_eq_false fun hqx => hx (Option.some.inj hqx).symm).symm
    · rfl
  have hunits (p : Port) (n : Notice) : n ∈ ((deleteQueueEffect q s).noticeUnit p).pendingSet ↔
      n ∈ (s.noticeUnit p).pendingSet ∧
        ¬((s.queue q).settings.target = some p ∧ n.kind = .queue ∧ n.source = BitVec.ofNat 6 q.val) :=
    mem_withdrawFrom _ _ _ p n
  refine h.written (h.not_unready hlive) (by rw [deleteQueueEffect_frame]) ?_
    (fun y hy => (s.deleteQueueEffect_queue q y).trans (if_neg hy)) hkept (fun j hj => ?_) ?_
    (fun p n hn _ => ((hunits p n).1 hn).1) (fun p n hn hk hs _ htarget _ => ?_)
  · refine ⟨?_, fun _ => ?_, fun _ => ?_, fun hs => ?_, fun _ => ?_, ?_, ?_⟩
    · rw [hsame, hgone]
    · rw [hsame]
      exact (Nat.le_add_right _ _).trans (hok.occupancy hlive)
    · rw [hsame]
      exact hok.settings hlive
    · rw [hsame] at hs
      cases hs
    · rw [hsame]
      exact ⟨rfl, rfl⟩
    · rw [hsame, hjobs]
      simp [hnone.1]
    · rw [hsame, hjobs]
      simp
  · rw [hjobs, List.mem_append, List.mem_singleton]
    exact or_iff_left fun heq => hj (by rw [heq]; rfl)
  · rw [hjobs]
    exact h.nodup_appended rfl hnone
  · exact absurd ⟨htarget, hk, hs⟩ ((hunits p n).1 hn).2

/-- The end of a walk: its job is gone, and the queue is ACTIVE again or cleared (R145). -/
theorem walkEnded (h : s.QueueLaw) (hd : s.device = .running) {delete : Bool} {js : List Job}
    (hj : s.jobs = (if delete then .delete q else .purge q) :: js) :
    (s.endWalk q delete).QueueLaw := by
  have hok := h.ok q
  have hsame : (s.endWalk q delete).queue q = (s.queue q).afterWalk delete := setQueue_queue_same s q _
  have hheld (x : QueueNo) : (s.endWalk q delete).takenFrom x = s.takenFrom x := rfl
  have hjobs : s.walkJobs = (if delete then .delete q else .purge q) :: (s.endWalk q delete).walkJobs := by
    show s.walkJobs = _ :: s.jobs.tail.filter _
    rw [walkJobs, hj]
    cases delete <;> rfl
  have hnodup := h.nodup
  rw [hjobs, List.filterMap_cons_some (b := q) (by cases delete <;> rfl), List.nodup_cons] at hnodup
  obtain ⟨hgone, hrest⟩ := hnodup
  have hnone (j : Job) (hq : j.queue? = some q) : j ∉ (s.endWalk q delete).walkJobs :=
    fun hm => hgone (List.mem_filterMap.2 ⟨j, hm, hq⟩)
  refine h.written (not_unready_of_running hd) rfl ?_ (fun y hy => setQueue_queue_other s _ _ _ hy)
    (fun x _ => hheld x) (fun j hne => ?_) hrest (fun _ _ hn _ => hn) (fun p n _ _ _ hev htarget hlevel => ?_)
  · cases delete with
    | false =>
      have hlive : (s.queue q).state ≠ .undefined := by
        rw [hok.purgeJob.2 (hjobs ▸ .head _)]
        decide
      refine ⟨?_, fun _ => ?_, fun _ => ?_, fun hs => ?_, fun hs => ?_, ?_, ?_⟩
      · rw [hsame]
        exact hok.outstanding
      · rw [hsame]
        exact hok.occupancy hlive
      · rw [hsame]
        exact hok.settings hlive
      · rw [hsame] at hs
        cases hs
      · rw [hsame] at hs
        cases hs
      · rw [hsame]
        exact iff_of_false (by simp [Queue.afterWalk]) (hnone _ rfl)
      · rw [hsame]
        exact iff_of_false (by simp [Queue.afterWalk]) (hnone _ rfl)
    | true =>
      have hdel := hok.deleteJob.2 (hjobs ▸ .head _)
      have hcleared : (s.endWalk q true).queue q = .cleared := hsame
      refine ⟨?_, ?_, ?_, fun _ => hcleared, ?_, ?_, ?_⟩
      · rw [hcleared, hheld, ← hok.outstanding, (hok.deleting hdel).1]
        rfl
      · simp [hcleared, Queue.cleared]
      · simp [hcleared, Queue.cleared]
      · simp [hcleared, Queue.cleared]
      · rw [hcleared]
        exact iff_of_false (by simp [Queue.cleared]) (hnone _ rfl)
      · rw [hcleared]
        exact iff_of_false (by simp [Queue.cleared]) (hnone _ rfl)
  · rw [hjobs, List.mem_cons]
    refine (or_iff_right fun heq => hne ?_).symm
    rw [heq]
    cases delete <;> rfl
  · cases delete with
    | false =>
      rw [hsame]
      exact ⟨rfl, htarget, hlevel⟩
    | true =>
      rw [Queue.evaluated, hok.deleteJob.2 (hjobs ▸ .head _)] at hev
      cases hev

/-! ## Every change -/

/-- Nothing that the laws of the queues speak of. -/
theorem unseen (h : s.QueueLaw) (hd : t.device = s.device) (hq : t.queues = s.queues) (hh : t.holdings = s.holdings)
    (hj : t.jobs = s.jobs) (hn : t.notices = s.notices) : t.QueueLaw :=
  h.calm (unready_congr hd).1 (fun q => by rw [queue_congr hq]; exact .refl _) (takenFrom_holdings hh)
    (by rw [walkJobs, hj, walkJobs]) (fun p n hmem _ => .inl (by rwa [noticeUnit_congr hn] at hmem))

/-- A change of one slot that has no source before or after. -/
theorem slotQuiet (h : s.QueueLaw) (hd : t.device = s.device) (hq : t.queues = s.queues)
    (ho : s.otherSlotsKept t p i) (hs : (s.slot p i).holding.source? = none)
    (ht : (t.slot p i).holding.source? = none) (hj : t.jobs = s.jobs) (hn : t.notices = s.notices) : t.QueueLaw :=
  h.calm (unready_congr hd).1 (fun q => by rw [queue_congr hq]; exact .refl _) (takenFrom_quiet ho hs ht)
    (by rw [walkJobs, hj, walkJobs]) (fun p n hmem _ => .inl (by rwa [noticeUnit_congr hn] at hmem))

/-- A port leaves: its claims are cleared and its notices emptied (R52, R130). -/
theorem portLeft (h : s.QueueLaw) (hd : t.device = s.device)
    (hq : ∀ q, t.queue q = if (s.queue q).claimant = some p then { s.queue q with claimant := none } else s.queue q)
    (hh : t.holdings = s.holdings) (hj : t.walkJobs = s.walkJobs) (hsame : t.noticeUnit p = .cleared)
    (hother : ∀ r, r ≠ p → t.noticeUnit r = s.noticeUnit r) : t.QueueLaw := by
  refine h.calm (unready_congr hd).1 (fun q => ?_) (takenFrom_holdings hh) hj (fun r n hmem _ => ?_)
  · rw [hq]
    exact Queue.sameCounts_unclaimed _ p
  · by_cases hr : r = p
    · rw [hr, hsame] at hmem
      cases hmem
    · exact .inl (hother r hr ▸ hmem)

theorem portGone (h : s.QueueLaw) (p : Port) (y : SettleState) : (s.portGone p y).QueueLaw :=
  h.portLeft (by rw [portGone_frame]) (s.portGone_queue p y) (by rw [portGone_frame]) (by rw [portGone_frame]; rfl)
    (s.portGone_noticeUnit_same p y) (s.portGone_noticeUnit_other p y)

/-- A PORT job walks no queue (R141). -/
theorem walkJobs_portJob (s : State) (p : Port) (y : SettleState) : (s.appendPortJob p y).walkJobs = s.walkJobs := by
  rw [walkJobs, appendPortJob_jobs, walkJobs]
  split
  · rw [List.filter_append]
    exact List.append_nil _
  · rfl

theorem portJobAppended (h : s.QueueLaw) (p : Port) (y : SettleState) : (s.appendPortJob p y).QueueLaw := by
  have hjobs := walkJobs_portJob s p y
  rw [appendPortJob_frame] at hjobs ⊢
  exact h.calm id (fun _ => .refl _) (fun _ => rfl) hjobs (fun _ _ hn _ => .inl hn)

theorem resetReleased (h : s.QueueLaw) (p : Port) : (s.releaseReset p).QueueLaw := h.unseen rfl rfl rfl rfl rfl

theorem setAside (h : s.QueueLaw) (p : Port) : (s.setAside p).QueueLaw := by
  refine h.portLeft (by rw [setAside_frame]) (s.setAside_queue p) (by rw [setAside_frame]) ?_
    (s.setAside_noticeUnit_same p) (s.setAside_noticeUnit_other p)
  rw [walkJobs, setAside_jobs, ← appendPortJob_jobs]
  exact walkJobs_portJob s p .fenced

end QueueLaw

theorem afterRead_subset (u : NoticeUnit) {n : Notice} (h : n ∈ u.afterRead.pendingSet) : n ∈ u.pendingSet := by
  unfold NoticeUnit.afterRead at h
  split at h
  · exact h
  · exact ((mem_withoutKey _ _ _).1 h).1

theorem setNoticeUnit_subset {u : NoticeUnit} (hu : ∀ n ∈ u.pendingSet, n ∈ (s.noticeUnit p).pendingSet) (r : Port)
    (n : Notice) (h : n ∈ ((s.setNoticeUnit p u).noticeUnit r).pendingSet) : n ∈ (s.noticeUnit r).pendingSet := by
  by_cases hr : r = p
  · subst hr
    rw [setNoticeUnit_noticeUnit_same] at h
    exact hu n h
  · rwa [setNoticeUnit_noticeUnit_other _ _ _ _ hr] at h

/-- Every single change keeps the laws of the queues. -/
theorem QueueLaw.change (hc : Change s t) (h : s.QueueLaw) : t.QueueLaw := by
  cases hc with
  | halted =>
    refine h.calm (fun hu => absurd hu (not_unready_of_halted ?_)) (fun _ => .refl _) (fun _ => rfl) rfl
      (fun _ _ hn _ => .inl hn)
    rfl
  | format p set period hd =>
    exact h.calm (fun _ => .inl hd) (fun _ => .refl _) (fun _ => rfl) rfl (fun _ _ hn _ => .inl hn)
  | raise p n hn =>
    refine h.calm (unready_congr (by rw [raise_frame])).1 (fun q => ?_) (takenFrom_holdings (by rw [raise_frame]))
      (by rw [raise_frame]; rfl) (fun r x hx hk => receives_records (receives_raise hn r) hx hk)
    rw [raise_queue]
    exact .refl _
  | push p =>
    exact h.calm id (fun _ => .refl _) (fun _ => rfl) rfl
      (fun r n hn _ => .inl (setNoticeUnit_subset (fun _ => afterRead_subset _) r n hn))
  | pop p top rest =>
    exact h.calm id (fun _ => .refl _) (fun _ => rfl) rfl
      (fun r n hn _ => .inl (setNoticeUnit_subset (u := { s.noticeUnit p with active := rest }) (fun _ => id) r n hn))
  | updateMessage => rw [updateMessage_frame]; exact h.unseen rfl rfl rfl rfl rfl
  | allocate p n i m hd hcheck =>
    obtain ⟨-, -, hempty, -⟩ := allocateCheck_eq_ok hcheck
    have hh : (allocateEffect p n i m s).holdings = (s.setSlot p i { s.slot p i with holding := .fresh m n }).holdings :=
      rfl
    exact h.slotQuiet rfl rfl (otherSlotsKept_of_holdings hh) (by rw [hempty]; rfl) (by rw [slot_of_holdings hh]; rfl) rfl
      rfl
  | putFresh p i q o m c hd ha hl hh =>
    have hsource : (s.slot p i).holding.source? = none := by rw [hh]; rfl
    refine h.putDown (by rw [putFresh_frame]; exact hd) ha hl (putFresh_holdings ..) (by rw [putFresh_frame])
      (e := o.listEnd) (m := m) (armed := s.armedTo q ((s.queue q).queued + 1)) (fun x => ?_) (fun r => ?_)
    · rw [hsource]
      exact putFresh_queue ..
    · rw [putFresh_noticeUnit]
      exact s.receives_afterCrossings q _ r
  | putTaken p i q o m c f hd ha hl hh =>
    have hsource : (s.slot p i).holding.source? = f.source := by rw [hh]; rfl
    refine h.putDown (by rw [putTaken_frame]; exact hd) ha hl (putTaken_holdings ..) (by rw [putTaken_frame])
      (e := o.listEnd) (m := m) (armed := s.armedTo q ((s.queue q).queued + 1)) (fun x => ?_) (fun r => ?_)
    · rw [hsource]
      exact putTaken_queue ..
    · rw [putTaken_noticeUnit]
      exact s.receives_afterCrossings q _ r
  | take p q i m e hd ha hm hi => exact h.taken hd ha hm hi
  | release p i m hd =>
    exact h.released (by rw [releaseEffect_frame]; exact hd) (releaseEffect_holdings ..) (by rw [releaseEffect_frame])
      (fun x => releaseEffect_queue ..) (fun r => .inl (by rw [releaseEffect_frame]; rfl))
  | drop p i m hd hm hs =>
    refine h.released (by rw [dropHolding_frame]; exact hd) (dropHolding_holdings ..) (by rw [dropHolding_frame])
      (fun x => ?_) (fun r => .inl (dropHolding_noticeUnit ..))
    rw [hs, dropHolding_queue]
    rfl
  | renew p i m c f hd hh =>
    have hheld (q) : (renewEffect p i m c f (s.tick + f.holdTime.setWidth 32) s).takenFrom q = s.takenFrom q := by
      refine takenFrom_congr (fun r j => ?_) q
      by_cases hrj : r = p ∧ j = i
      · obtain ⟨rfl, rfl⟩ := hrj
        rw [renewEffect_slot, hh]
        rfl
      · rw [renewEffect_otherSlotsKept s p i m c f _ r j (not_and_or.1 hrj)]
    exact h.calm id (fun _ => .refl _) hheld rfl (fun _ _ hn _ => .inl hn)
  | endHolding p i m c f q hd hh hs => exact h.holdingEnded hd (by rw [hh]; exact hs)
  | claim p o q hp ha =>
    exact h.calm id (setQueue_sameCounts (s := s.startCommand p .claim o) (Queue.sameCounts_claimed _ ha _))
      (fun _ => rfl) rfl (fun _ _ hn _ => .inl hn)
  | unclaim q hu =>
    refine h.calm id (setQueue_sameCounts ⟨rfl, rfl, rfl, rfl, fun hs _ => absurd hs hu, fun _ _ => rfl⟩) (fun _ => rfl)
      rfl (fun _ _ hn _ => .inl hn)
  | finishWalk w hd =>
    refine .of_cleared (s.finishWalk_queue w) (fun r j => by simp [finishWalk, slot, Slot.cleared]) ?_
      (fun p => by simp [finishWalk, noticeUnit])
    refine List.filter_eq_nil_iff.2 fun j hj => ?_
    have undefined := h.unready (.inr hd)
    cases j with
    | port => simp [Job.queue?]
    | purge q => cases (undefined q).symm.trans ((h.purgeJob q).2 hj)
    | delete q => cases (undefined q).symm.trans ((h.deleteJob q).2 hj)
  | defineQueue q x hd hu hx => exact h.defined hd hu hx
  | modifyQueue q x ha hx hl => exact h.modified ha hx hl
  | purgeQueue q ha => exact h.purged ha
  | deleteQueue q ha => exact h.deleted ha
  | fencePort p r o =>
    have started : (s.startCommand p .fencePort o).QueueLaw := h.unseen rfl rfl rfl rfl rfl
    exact started.setAside r
  | resetPort p o =>
    have started : (s.startCommand p .resetPort o).QueueLaw := h.unseen rfl rfl rfl rfl rfl
    exact ((started.portGone p .attached).portJobAppended p .attached).resetReleased p
  | lineAsserted p y =>
    have asserted : (s.setLine p true).QueueLaw := h.unseen rfl rfl rfl rfl rfl
    exact asserted.portGone p y
  | lineAssertedWithJob p =>
    have asserted : (s.setLine p true).QueueLaw := h.unseen rfl rfl rfl rfl rfl
    exact (asserted.portGone p .attached).portJobAppended p .attached
  | walkHead q m delete js hd hj hm => exact h.headWalked hd hm
  | endWalk q delete js hd hj => exact h.walkEnded hd hj
  | portJobDone p e js hd hj =>
    have hjobs : s.popJob.walkJobs = s.walkJobs := by
      rw [walkJobs, walkJobs, popJob, hj]
      rfl
    split
    · exact h.calm id (fun _ => .refl _) (fun _ => rfl) hjobs (fun _ _ hn _ => .inl hn)
    · exact h.calm id (fun _ => .refl _) (fun _ => rfl) hjobs (fun _ _ hn _ => .inl hn)
  | powerOn lines =>
    exact .of_cleared (poweredOn_queue lines) (fun r j => by simp [poweredOn, slot, Slot.cleared]) rfl
      (fun p => by simp [poweredOn, noticeUnit])
  | deviceReset =>
    exact .of_cleared s.deviceReset_queue (fun r j => by simp [deviceReset, poweredOn, slot, Slot.cleared]) rfl
      (fun p => by simp [deviceReset, poweredOn, noticeUnit])
  | _ => exact h.unseen rfl rfl rfl rfl rfl

end State

/-- Settles O10: counts move with the messages, jobs with the queue states, and a record is withdrawn when its queue
no longer bears it out. -/
theorem stepKeepsTheQueueLaw : Obligations.StepKeepsTheQueueLaw := by
  intro s t _ hs h
  exact step_keeps (P := State.QueueLaw) (fun _ _ hp => hp.unseen rfl rfl rfl rfl rfl) (fun _ _ hc => .change hc) hs h

end Sys2Proof.Machine
end

section
/-! Proofs/Reset.lean: the state at reset, and that it meets the laws every step keeps. -/

namespace Sys2Proof.Machine

namespace State

/-- With every port reset line released, a port stands ATTACHED after power-on (R134). -/
theorem reset_port (p : Port) : State.reset.port p = .cleared false := by
  fin_cases p <;> rfl

theorem reset_interface (p : Port) : State.reset.interface p = .cleared false := by
  fin_cases p <;> rfl

theorem reset_slot (p : Port) (i : SlotNo) : State.reset.slot p i = .cleared := by
  simp [reset, poweredOn, slot]

theorem reset_noticeUnit (p : Port) : State.reset.noticeUnit p = .cleared := by
  simp [reset, poweredOn, noticeUnit]

end State

/-- Settles O3: each table holds one power-on value in every entry. -/
theorem resetHoldsThePowerOnValues : Obligations.ResetHoldsThePowerOnValues := by
  refine ⟨rfl, rfl, rfl, rfl, rfl, rfl, rfl, rfl, State.poweredOn_queue 0, State.reset_port, State.reset_slot, rfl, rfl,
    rfl, rfl, rfl, rfl, rfl, rfl, fun p => ?_, State.reset_noticeUnit⟩
  rw [State.reset_interface]
  exact ⟨rfl, rfl, rfl, rfl, rfl, rfl, rfl, rfl, rfl, rfl, rfl⟩

/-- Settles O4: nothing is defined, held, free or pending at reset. -/
theorem resetMeetsTheLaws : Obligations.ResetMeetsTheLaws := by
  have empty (p : Port) (i : SlotNo) : (State.reset.slot p i).holding = .empty := by
    rw [State.reset_slot]
    rfl
  have queues : ∀ q, State.reset.queue q = .cleared := State.poweredOn_queue 0
  exact ⟨rfl, .of_cleared rfl rfl empty rfl, .of_cleared (fun q => congrArg Queue.list (queues q)) empty rfl,
    .of_cleared empty, .ofPoweredOn 0, .of_cleared queues empty rfl State.reset_noticeUnit, .of_cleared empty rfl⟩

end Sys2Proof.Machine
end

section
/-! Proofs/Lifecycle.lean: power-on and the reset lines, and the start, the walk's end and the ticks of a part
that is formatted: what each leaves in every block. -/

namespace Sys2Proof.Machine

/-! ## Power-on and the device reset line -/

namespace State

theorem poweredOn_port (lines : PortSet) (p : Port) : (poweredOn lines).port p = .cleared (lines.getLsbD p.val) := by
  fin_cases p <;> rfl

theorem poweredOn_interface (lines : PortSet) (p : Port) :
    (poweredOn lines).interface p = .cleared (lines.getLsbD p.val) := by
  fin_cases p <;> rfl

theorem poweredOn_slot (lines : PortSet) (p : Port) (i : SlotNo) : (poweredOn lines).slot p i = .cleared := by
  simp [poweredOn, slot]

theorem poweredOn_noticeUnit (lines : PortSet) (p : Port) : (poweredOn lines).noticeUnit p = .cleared := by
  simp [poweredOn, noticeUnit]

variable (s : State)

theorem deviceReset_port (p : Port) : s.deviceReset.port p = .cleared (s.interface p).line :=
  getElem_mapTable _ s.interfaces p.val p.isLt

theorem deviceReset_interface (p : Port) :
    s.deviceReset.interface p =
      { PortInterface.cleared (s.interface p).line with readData := (s.interface p).readData } :=
  getElem_mapTable _ s.interfaces p.val p.isLt

theorem deviceReset_slot (p : Port) (i : SlotNo) : s.deviceReset.slot p i = .cleared := poweredOn_slot 0 p i

theorem deviceReset_noticeUnit (p : Port) : s.deviceReset.noticeUnit p = .cleared := poweredOn_noticeUnit 0 p

end State

/-- Settles O16: every table of the state holds its power-on value, and the lines decide which ports are DOWN. -/
theorem powerOnSetsEveryBlock : Obligations.PowerOnSetsEveryBlock := by
  intro s lines
  refine ⟨_, rfl, rfl, rfl, rfl, rfl, rfl, rfl, rfl, rfl, rfl, rfl, rfl, rfl, State.poweredOn_queue lines,
    State.poweredOn_port lines, State.poweredOn_slot lines, rfl, rfl, rfl, rfl, rfl, rfl, rfl, rfl, fun p => ?_,
    State.poweredOn_noticeUnit lines⟩
  have cleared : State.interface { State.poweredOn lines with pending := s.pending } p = .cleared (lines.getLsbD p.val) :=
    State.poweredOn_interface lines p
  rw [cleared]
  exact ⟨rfl, rfl, rfl, rfl, rfl, rfl, rfl, rfl, rfl, rfl, rfl, rfl⟩

theorem exec_deviceResetLineAsserted (s : State) :
    exec .deviceResetLineAsserted s = .next (if s.deviceLine then s else s.deviceReset) := (rfl)

/-- Settles O17: the reset takes power-on's values in every block but the payload and the capture register, which
are kept. -/
theorem deviceResetLineKeepsPayloadAndCapture : Obligations.DeviceResetLineKeepsPayloadAndCapture := by
  intro s
  refine ⟨fun hl => ⟨s.deviceReset, ?_, rfl, rfl, rfl, rfl, rfl, rfl, rfl, rfl, rfl, rfl, rfl, rfl, rfl, rfl, rfl, rfl,
    s.deviceReset_queue, s.deviceReset_port, s.deviceReset_slot, rfl, rfl, rfl, rfl, s.deviceReset_interface,
    s.deviceReset_noticeUnit⟩, fun hl => ?_, rfl⟩
  · rw [exec_deviceResetLineAsserted, hl]
    rfl
  · rw [exec_deviceResetLineAsserted, hl]
    rfl

/-! ## The port reset lines -/

namespace State

variable (s : State) (p : Port)

theorem setLine_interface_same (b : Bool) : (s.setLine p b).interface p = { s.interface p with line := b } :=
  s.setInterface_interface_same p _

theorem setLine_interface_other (b : Bool) (r : Port) (h : r ≠ p) : (s.setLine p b).interface r = s.interface r :=
  s.setInterface_interface_other p r _ h

end State

theorem exec_portResetLineReleased (p : Port) (s : State) :
    exec (.portResetLineReleased p) s =
      .next (if (s.interface p).line then (s.setLine p false).releaseReset p else s) := (rfl)

/-- Settles O19: the release reads the PORT job and the settle state, and clears the command words. -/
theorem portResetReleaseRestoresThePort : Obligations.PortResetReleaseRestoresThePort := by
  intro s p
  refine ⟨fun hl => ?_, fun hl => ⟨(s.setLine p false).releaseReset p, ?_, ?_, ?_, ?_, ?_, fun r hr => ?_, ?_,
    fun r hr => ?_, rfl⟩⟩
  · rw [exec_portResetLineReleased, hl]
    rfl
  · rw [exec_portResetLineReleased, hl]
    rfl
  · intro hj
    have hj' : (s.setLine p false).hasPortJob p = true := hj
    rw [State.releaseReset_port_same, if_pos hj']
  · intro hj hs
    have hj' : (s.setLine p false).hasPortJob p = false := hj
    have hs' : ((s.setLine p false).port p).settle = .attached := hs
    simp [State.releaseReset_port_same, hj', hs', SettleState.toPortState]
  · intro hj hs
    have hj' : (s.setLine p false).hasPortJob p = false := hj
    have hs' : ((s.setLine p false).port p).settle = .fenced := hs
    simp [State.releaseReset_port_same, hj', hs', SettleState.toPortState]
  · rw [State.releaseReset_port_same]
    rfl
  · rw [State.releaseReset_port_other _ p r hr]
    rfl
  · rw [State.releaseReset_interface_same, State.setLine_interface_same]
    rfl
  · rw [State.releaseReset_interface_other _ p r hr, State.setLine_interface_other _ p _ r hr]

/-! ## FORMAT -/

theorem TickPeriod.ofMicroseconds_microseconds (t : TickPeriod) : TickPeriod.ofMicroseconds t.microseconds = some t := by
  cases t <;> rfl

theorem TickPeriod.ofMicroseconds_eq_none {n : Nat} (h1 : n ≠ 1) (h10 : n ≠ 10) (h100 : n ≠ 100) (h1000 : n ≠ 1000) :
    TickPeriod.ofMicroseconds n = none := by
  simp [TickPeriod.ofMicroseconds, h1, h10, h100, h1000]

/-- A FORMAT that the device-state check lets pass goes on to its own checks (R15). -/
theorem exec_format_taken {s : State} {p : Port} {o : Operands} (hd : s.device = .unformatted)
    (hl : s.deviceLine = false) (hw : s.waits p .format o) :
    exec (.format p) s = .next (formatBody p o (s.startCommand p .format o)) := by
  have passed : s.deviceCheck .format = none := by simp [s.deviceCheck_of_unformatted .format hd, hl]
  have granted := s.presents_of_waits p .format o hw
  show Host.Outcome.next (s.takeCommand p .format (formatBody p)) = _
  rw [State.takeCommand, granted]
  dsimp only
  rw [passed]

theorem exec_format_refused {s : State} {p : Port} {o : Operands} {x : OutcomeCode} (hd : s.device = .unformatted)
    (hl : s.deviceLine = false) (hw : s.waits p .format o) (hx : formatCheck o = .error x) :
    exec (.format p) s = .next (s.answered p x noResults) := by
  obtain ⟨-, hslot⟩ := id hw
  rw [exec_format_taken hd hl hw, formatBody, hx]
  exact congrArg _ (s.startCommand_complete p .format o x noResults hslot)

/-- Settles O20: the two refusals are those of `formatCheck`, and a FORMAT that passes starts the walk with its slot
left RUNNING. -/
theorem formatChecksAndStartsTheWalk : Obligations.FormatChecksAndStartsTheWalk := by
  intro s p o hd hl hw
  refine ⟨fun ha => exec_format_refused hd hl hw (if_pos ha), fun ha h1 h10 h100 h1000 => ?_, fun t ha ht => ?_⟩
  · refine exec_format_refused hd hl hw ?_
    rw [formatCheck, if_neg ha, TickPeriod.ofMicroseconds_eq_none h1 h10 h100 h1000]
  · have passed : formatCheck o = .ok t := by
      rw [formatCheck, if_neg ha, ht, t.ofMicroseconds_microseconds]
    obtain ⟨-, hslot⟩ := id hw
    rw [exec_format_taken hd hl hw, formatBody, passed]
    simp only [State.startCommand, hslot]
    rfl

/-! ## FORMAT completion -/

namespace State

variable (s : State) (w : FormatWalk)

theorem finishWalk_slot (p : Port) (i : SlotNo) : (s.finishWalk w).slot p i = .cleared := by
  simp [finishWalk, slot]

theorem finishWalk_noticeUnit (p : Port) : (s.finishWalk w).noticeUnit p = .cleared := by
  simp [finishWalk, noticeUnit]

theorem finishWalk_port (p : Port) :
    (s.finishWalk w).port p =
      { s.port p with quota := 1024, admin := w.adminSet.getLsbD p.val, ordinal := 0 } :=
  getElem_mapTableIdx _ s.ports p.val p.isLt

end State

theorem exec_walkCompletion {s : State} {w : FormatWalk} (hd : s.device = .formatting) (hw : s.walk = some w)
    (hn : w.next = 4096) :
    exec .walkCompletion s = .next ((s.finishWalk w).complete w.issuer .ok noResults) := by
  show Host.Outcome.next _ = _
  rw [if_pos hd, hw]
  dsimp only
  rw [if_pos hn]

/-- Settles O22: the state is `finishWalk`'s, read field by field, and the completion writes the issuer's interface
alone. -/
theorem walkCompletionMakesThePartRunning : Obligations.WalkCompletionMakesThePartRunning := by
  intro s w hd hw hn
  refine ⟨_, exec_walkCompletion hd hw hn, fun q => ?_, ?_, fun p i => ?_, fun p => ?_, fun p => ?_, ?_, ?_, ?_, ?_, ?_,
    fun hk => ?_, fun hk => ?_, fun r hr => ?_, ?_, ?_⟩
  · rw [State.complete_queue, s.finishWalk_queue]
  · rw [State.complete_messages]
    rfl
  · rw [State.complete_slot, s.finishWalk_slot]
    rfl
  · rw [State.complete_noticeUnit, s.finishWalk_noticeUnit]
    rfl
  · rw [State.complete_port, s.finishWalk_port]
  · rw [State.complete_tickPeriod]
    rfl
  · rw [State.complete_tick]
    rfl
  · rw [State.complete_timeouts]
    rfl
  · rw [State.complete_device]
    rfl
  · rw [State.complete_walk]
    rfl
  · exact State.complete_interface_same (s.finishWalk w) w.issuer .ok noResults hk
  · exact State.complete_interface_discarded (s.finishWalk w) w.issuer .ok noResults hk
  · exact State.complete_interface_other (s.finishWalk w) w.issuer r .ok noResults hr
  · rw [State.complete_parityErrors]
    refine List.filter_congr fun e _ => ?_
    cases e <;> rfl
  · have completed := (s.finishWalk w).complete_frame w.issuer .ok noResults
    generalize (s.finishWalk w).complete w.issuer .ok noResults = t at completed ⊢
    rw [completed]
    rfl

/-! ## The tick counter -/

/-- An entry's remaining time is 0 exactly where its deadline is the tick counter (R102). -/
theorem remaining_eq_zero (tick deadline : BitVec 32) : remaining tick deadline = 0 ↔ deadline = tick := by
  rw [remaining, ← BitVec.toNat_zero (w := 32), BitVec.toNat_inj, BitVec.sub_eq_iff_eq_add, BitVec.zero_add]

theorem State.markDue_timeouts (s : State) :
    s.markDue.timeouts = s.timeouts.map (fun e => { e with due := e.due || decide (e.deadline = s.tick) }) := by
  refine List.map_congr_left fun e _ => ?_
  by_cases h : e.deadline = s.tick
  · rw [if_pos ((remaining_eq_zero _ _).2 h), decide_eq_true h, Bool.or_true]
  · rw [if_neg (mt (remaining_eq_zero _ _).1 h), decide_eq_false h, Bool.or_false]

theorem State.markDue_eq (s : State) :
    s.markDue =
      { s with
        timeouts := s.timeouts.map (fun e => { e with due := e.due || decide (e.deadline = s.tick) }) } := by
  rw [← s.markDue_timeouts]
  rfl

/-- Settles O57: an entry is due where its deadline is the tick counter, and the advance marks on the counter's new
value. -/
theorem tickAdvanceMarksTheDueEntries : Obligations.TickAdvanceMarksTheDueEntries := by
  intro s
  refine ⟨fun hd => ⟨congrArg _ (if_neg hd), congrArg _ (if_neg hd)⟩, fun hd => ⟨?_, ?_⟩⟩
  · exact congrArg _ ((if_pos hd).trans (State.markDue_eq { s with tick := s.tick + 1 }))
  · exact congrArg _ ((if_pos hd).trans s.markDue_eq)

end Sys2Proof.Machine
end

section
/-! Proofs/PortResets.lean: the assertion of a port's reset line and RESET PORT, built on `portGone`, the part of a
port reset that is the same from every state. -/

namespace Sys2Proof.Machine

namespace State

/-! ## What a port reset writes in the port's interface (R72) -/

section Gone

variable (s : State) (p : Port) (y : SettleState)

theorem portGone_interface_same :
    (s.portGone p y).interface p =
      { (s.interface p).flagsCleared with
        slot := slotAfterReset (s.interface p).slot
        outcome := emptyOutcome
        operands := Vector.replicate 8 0
        results := noResults
        select := none
        noticeEnable := false
        systemLevel := 0 } :=
  setInterface_interface_same _ p _

end Gone

theorem slotAfterReset_of_idle {x : CommandSlot} (h : x.status = .idle) : slotAfterReset x = x := by
  simp only [slotAfterReset, h]

theorem slotAfterReset_of_waiting {x : CommandSlot} {r : CommandRecord} (h : x.status = .waiting r) :
    slotAfterReset x = .idle := by
  simp only [slotAfterReset, h]

/-- A FORMAT that runs goes on, and its completion will write nothing (R72). -/
theorem slotAfterReset_of_format {x : CommandSlot} {r : CommandRecord} (h : x.status = .running r)
    (hr : r.code = .format) : slotAfterReset x = { status := .running r, discard := true } := by
  simp only [slotAfterReset, h, if_pos hr]

theorem slotAfterReset_of_running {x : CommandSlot} {r : CommandRecord} (h : x.status = .running r)
    (hr : r.code ≠ .format) : slotAfterReset x = .idle := by
  simp only [slotAfterReset, h, if_neg hr]

theorem appendPortJob_hasPortJob (s : State) (p : Port) (y : SettleState) (h : s.hasPortJob p = false) :
    (s.appendPortJob p y).hasPortJob p = s.holdsAny p := by
  unfold hasPortJob at h ⊢
  rw [appendPortJob_jobs]
  split
  · next hh => simp [hh]
  · next hh => rw [h, Bool.eq_false_iff.2 hh]

/-! ## The assertion of a port's reset line (R135) -/

/-- Port `p` DOWN by its reset line, before any job and notice: a port that was ATTACHED settles ATTACHED (R135). -/
def lineGone (s : State) (p : Port) : State :=
  (s.setLine p true).portGone p (if (s.port p).state = .attached then .attached else (s.port p).settle)

/-- The same with the PORT job of a port that was ATTACHED, unless the device is HALTED (R135). -/
def lineDown (s : State) (p : Port) : State :=
  if (s.port p).state = .attached ∧ s.device ≠ .halted then (s.lineGone p).appendPortJob p .attached else s.lineGone p

variable (s : State) (p : Port)

theorem lineGone_frame :
    s.lineGone p =
      { s with
        ports := (s.lineGone p).ports
        queues := (s.lineGone p).queues
        notices := (s.lineGone p).notices
        interfaces := (s.lineGone p).interfaces } := by
  unfold lineGone
  rw [portGone_frame]
  rfl

/-- The job is the one thing that `lineDown` adds. -/
theorem lineDown_eq : s.lineDown p = { s.lineGone p with jobs := (s.lineDown p).jobs } := by
  unfold lineDown
  split
  · exact appendPortJob_frame _ p .attached
  · rfl

theorem lineDown_jobs :
    (s.lineDown p).jobs =
      if (s.port p).state = .attached ∧ s.device ≠ .halted ∧ s.holdsAny p = true
        then s.jobs ++ [.port p .attached] else s.jobs := by
  have gone : (s.lineGone p).holdsAny p = s.holdsAny p := (s.setLine p true).portGone_holdsAny p _ p
  have jobs : (s.lineGone p).jobs = s.jobs := by rw [lineGone_frame]
  unfold lineDown
  by_cases h : (s.port p).state = .attached ∧ s.device ≠ .halted
  · obtain ⟨ha, hd⟩ := h
    rw [if_pos ⟨ha, hd⟩, appendPortJob_jobs, gone, jobs]
    simp [ha, hd]
  · rw [if_neg h, jobs, if_neg fun ⟨ha, hd, _⟩ => h ⟨ha, hd⟩]

theorem lineDown_frame :
    s.lineDown p =
      { s with
        ports := (s.lineDown p).ports
        queues := (s.lineDown p).queues
        notices := (s.lineDown p).notices
        jobs := (s.lineDown p).jobs
        interfaces := (s.lineDown p).interfaces } := by
  have down := s.lineDown_eq p
  have gone := s.lineGone_frame p
  generalize s.lineDown p = t at down ⊢
  generalize s.lineGone p = v at down gone
  rw [down, gone]

theorem lineDown_port (r : Port) : (s.lineDown p).port r = (s.lineGone p).port r := by
  rw [lineDown_eq]
  rfl

theorem lineDown_port_same :
    (s.lineDown p).port p =
      { s.port p with
        state := .down
        settle := if (s.port p).state = .attached then .attached else (s.port p).settle } := by
  rw [lineDown_port]
  exact (s.setLine p true).portGone_port_same p _

theorem lineDown_port_other (r : Port) (h : r ≠ p) : (s.lineDown p).port r = s.port r := by
  rw [lineDown_port]
  exact (s.setLine p true).portGone_port_other p _ r h

theorem lineDown_queue (q : QueueNo) :
    (s.lineDown p).queue q =
      if (s.queue q).claimant = some p then { s.queue q with claimant := none } else s.queue q := by
  have kept : (s.lineDown p).queue q = (s.lineGone p).queue q := by rw [lineDown_eq]; rfl
  rw [kept]
  exact (s.setLine p true).portGone_queue p _ q

theorem lineDown_noticeUnit (r : Port) : (s.lineDown p).noticeUnit r = (s.lineGone p).noticeUnit r := by
  rw [lineDown_eq]
  rfl

theorem lineDown_noticeUnit_same : (s.lineDown p).noticeUnit p = .cleared := by
  rw [lineDown_noticeUnit]
  exact (s.setLine p true).portGone_noticeUnit_same p _

theorem lineDown_noticeUnit_other (r : Port) (h : r ≠ p) : (s.lineDown p).noticeUnit r = s.noticeUnit r := by
  rw [lineDown_noticeUnit]
  exact (s.setLine p true).portGone_noticeUnit_other p _ r h

theorem lineDown_interface (r : Port) : (s.lineDown p).interface r = (s.lineGone p).interface r := by
  rw [lineDown_eq]
  rfl

theorem lineDown_interface_same :
    (s.lineDown p).interface p =
      { (s.interface p).flagsCleared with
        line := true
        slot := slotAfterReset (s.interface p).slot
        outcome := emptyOutcome
        operands := Vector.replicate 8 0
        results := noResults
        select := none
        noticeEnable := false
        systemLevel := 0 } := by
  rw [lineDown_interface, lineGone, portGone_interface_same, setLine_interface_same]
  rfl

theorem lineDown_interface_other (r : Port) (h : r ≠ p) : (s.lineDown p).interface r = s.interface r := by
  rw [lineDown_interface, lineGone, portGone_interface_other _ p _ r h, setLine_interface_other _ p _ r h]

/-- A port that was not DOWN goes DOWN, and unless the device is HALTED the other admin ports are told (R135). -/
theorem exec_portResetLineAsserted (hl : (s.interface p).line = false) (hs : (s.port p).state ≠ .down) :
    exec (.portResetLineAsserted p) s =
      .next (if s.device = .halted then s.lineDown p else (s.lineDown p).raisePortEvent p Reasons.reset) := by
  have attached : (s.port p).state = .attached → exec (.portResetLineAsserted p) s =
      .next ((s.setLine p true).resetFromAttached p) := fun hs => by
    show Host.Outcome.next _ = _
    rw [hl, hs]
    rfl
  have elsewhere : (s.port p).state = .reclaiming ∨ (s.port p).state = .fenced →
      exec (.portResetLineAsserted p) s = .next ((s.setLine p true).resetFromElsewhere p) := fun hs => by
    show Host.Outcome.next _ = _
    rcases hs with hs | hs <;> rw [hl, hs] <;> rfl
  by_cases ha : (s.port p).state = .attached
  · rw [attached ha]
    by_cases hd : s.device = .halted
    · have hd' : (s.setLine p true).device = .halted := hd
      simp [lineDown, lineGone, resetFromAttached_of_halted _ _ hd', ha, hd]
    · have hd' : (s.setLine p true).device ≠ .halted := hd
      simp [lineDown, lineGone, resetFromAttached_of_not_halted _ _ hd', ha, hd]
  · rw [elsewhere (by cases h : (s.port p).state <;> simp_all)]
    simp only [lineDown, lineGone, ha, if_false, false_and]
    rfl

end State

/-- Settles O18: the port goes DOWN by `lineDown`; the PORT EVENT after it reaches the notice units of other ports
and nothing else. -/
theorem portResetAssertionTakesThePortDown : Obligations.PortResetAssertionTakesThePortDown := by
  intro s p
  refine ⟨fun hl => ?_, fun hl hs => ⟨_, s.exec_portResetLineAsserted p hl hs, ?_⟩⟩
  · show Host.Outcome.next _ = _
    rw [hl]
    rfl
  -- Told or not, the state is `lineDown`'s but for the notice units.
  have told : ∃ t, (if s.device = .halted then s.lineDown p else (s.lineDown p).raisePortEvent p Reasons.reset) = t ∧
      t = { s.lineDown p with notices := t.notices } ∧ t.noticeUnit p = .cleared ∧
      ∀ r, r ≠ p → t.noticeUnit r = if s.device = .halted then s.noticeUnit r else s.afterPortEvent p r 1#3 := by
    refine ⟨_, rfl, ?_, ?_, fun r hr => ?_⟩
    · split
      · rfl
      · exact State.raisePortEvent_frame _ p _
    · split
      · exact s.lineDown_noticeUnit_same p
      · rw [State.raisePortEvent_noticeUnit, State.afterPortEvent_self, s.lineDown_noticeUnit_same]
    · split
      · exact s.lineDown_noticeUnit_other p r hr
      · rw [State.raisePortEvent_noticeUnit]
        refine State.afterPortEvent_congr (s.lineDown_port_other p r hr) ?_ (s.lineDown_noticeUnit_other p r hr) p _
        rw [s.lineDown_interface_other p r hr]
  obtain ⟨t, ht, frame, unit, units⟩ := told
  have interface (r : Port) : t.interface r = (s.lineDown p).interface r := by rw [frame]; rfl
  rw [ht]
  refine ⟨?_, fun r hr => ?_, fun q => ?_, unit, units, ?_, ?_, fun hi => ?_, fun r hi => ?_, fun r hi hf => ?_,
    fun r hr => ?_, ?_⟩
  · rw [frame]
    exact s.lineDown_port_same p
  · rw [frame]
    exact s.lineDown_port_other p r hr
  · rw [frame]
    exact s.lineDown_queue p q
  · rw [frame]
    exact s.lineDown_jobs p
  · rw [interface, s.lineDown_interface_same]
    rfl
  · rw [interface, s.lineDown_interface_same]
    exact State.slotAfterReset_of_idle hi
  · rw [interface, s.lineDown_interface_same]
    exact State.slotAfterReset_of_waiting hi
  · rw [interface, s.lineDown_interface_same]
    exact State.slotAfterReset_of_format hi hf
  · rw [interface, s.lineDown_interface_other p r hr]
  · have down := s.lineDown_frame p
    generalize s.lineDown p = v at frame down
    rw [frame, down]

/-! ## RESET PORT (R137) -/

namespace State

/-- Port `p` reset and released at once, before the PORT EVENT (R137). -/
def portRestarted (s : State) (p : Port) : State :=
  ((s.portGone p .attached).appendPortJob p .attached).releaseReset p

variable (s : State) (p : Port)

theorem resetPortBody_eq (o : Operands) (h : s.device ≠ .halted) :
    resetPortBody p o s = (s.portRestarted p).raisePortEvent p Reasons.reset := by
  rw [resetPortBody, s.resetFromAttached_of_not_halted p h, raisePortEvent_releaseReset]
  rfl

theorem portRestarted_port_same (h : s.hasPortJob p = false) :
    (s.portRestarted p).port p =
      { s.port p with state := if s.holdsAny p then .reclaiming else .attached, settle := .attached } := by
  have job : ((s.portGone p .attached).appendPortJob p .attached).hasPortJob p = s.holdsAny p := by
    rw [appendPortJob_hasPortJob _ _ _ (by rw [portGone_hasPortJob, h]), portGone_holdsAny]
  rw [portRestarted, releaseReset_port_same, job, appendPortJob_port, portGone_port_same]
  rfl

theorem portRestarted_port_other (r : Port) (h : r ≠ p) : (s.portRestarted p).port r = s.port r := by
  rw [portRestarted, releaseReset_port_other _ p r h, appendPortJob_port, portGone_port_other _ _ _ r h]

theorem portRestarted_queue (q : QueueNo) :
    (s.portRestarted p).queue q =
      if (s.queue q).claimant = some p then { s.queue q with claimant := none } else s.queue q := by
  rw [← s.portGone_queue p .attached q, portRestarted, releaseReset_frame]
  exact appendPortJob_queue (s.portGone p .attached) p .attached q

theorem portRestarted_jobs :
    (s.portRestarted p).jobs = if s.holdsAny p then s.jobs ++ [.port p .attached] else s.jobs := by
  have jobs : (s.portGone p .attached).jobs = s.jobs := by rw [portGone_frame]
  rw [portRestarted, releaseReset_frame]
  exact (appendPortJob_jobs _ p .attached).trans (by rw [portGone_holdsAny, jobs])

theorem portRestarted_noticeUnit (r : Port) :
    (s.portRestarted p).noticeUnit r = (s.portGone p .attached).noticeUnit r := by
  rw [portRestarted, releaseReset_frame]
  exact appendPortJob_noticeUnit (s.portGone p .attached) p .attached r

theorem portRestarted_interface_same :
    (s.portRestarted p).interface p =
      { (s.interface p).flagsCleared with
        slot := slotAfterReset (s.interface p).slot
        outcome := emptyOutcome
        operands := Vector.replicate 8 0
        results := noResults
        select := none
        noticeEnable := false
        systemLevel := 0 } := by
  rw [portRestarted, releaseReset_interface_same, appendPortJob_interface, portGone_interface_same]

theorem portRestarted_interface_other (r : Port) (h : r ≠ p) : (s.portRestarted p).interface r = s.interface r := by
  rw [portRestarted, releaseReset_interface_other _ p r h, appendPortJob_interface, portGone_interface_other _ _ _ r h]

end State

/-- Settles O44: `portRestarted` is the reset and its release; the issuer's own command is RUNNING, so its slot ends
IDLE with no outcome, and the PORT EVENT reaches other ports alone. -/
theorem resetPortReclaimsTheIssuersHoldings : Obligations.ResetPortReclaimsTheIssuersHoldings := by
  intro s p o h _ hj
  obtain ⟨hd, hw⟩ := id h
  obtain ⟨-, hslot⟩ := id hw
  have effect : exec (.resetPort p) s =
      .next (((s.startCommand p .resetPort o).portRestarted p).raisePortEvent p Reasons.reset) :=
    (exec_command_taken (c := .resetPort) (by decide) h).trans
      (congrArg _ (State.resetPortBody_eq (s.startCommand p .resetPort o) p o (by simp [hd])))
  have other (x : Port) (hx : x ≠ p) : (s.startCommand p .resetPort o).interface x = s.interface x :=
    s.startCommand_interface_other p x _ o hx
  refine ⟨_, effect, ?_, ?_, fun x hx => ?_, fun q => ?_, ?_, fun x hx => ?_, ?_, ?_, fun x hx => ?_, ?_⟩
  · rw [State.raisePortEvent_lastGranted, State.portRestarted, State.portRestart_frame]
    rfl
  · rw [State.raisePortEvent_interface, State.portRestarted_interface_same, State.startCommand_interface_same]
    simp [hslot, State.slotAfterReset, PortInterface.flagsCleared, CommandSlot.idle, emptyOutcome, noResults]
  · rw [State.raisePortEvent_interface, State.portRestarted_interface_other _ p x hx, other x hx]
  · rw [State.raisePortEvent_queue, State.portRestarted_queue, State.startCommand_queue]
  · rw [State.raisePortEvent_port]
    exact State.portRestarted_port_same (s.startCommand p .resetPort o) p hj
  · rw [State.raisePortEvent_port, State.portRestarted_port_other _ p x hx, State.startCommand_port]
  · rw [State.raisePortEvent_jobs, State.portRestarted_jobs, State.startCommand_jobs, State.startCommand_holdsAny]
  · rw [State.raisePortEvent_noticeUnit, State.afterPortEvent_self, State.portRestarted_noticeUnit,
      State.portGone_noticeUnit_same]
    rfl
  · rw [State.raisePortEvent_noticeUnit]
    refine State.afterPortEvent_congr ?_ ?_ ?_ p _
    · rw [State.portRestarted_port_other _ p x hx, State.startCommand_port]
    · rw [State.portRestarted_interface_other _ p x hx, other x hx]
    · rw [State.portRestarted_noticeUnit, State.portGone_noticeUnit_other _ p _ x hx, State.startCommand_noticeUnit]
  · have restarted := (s.startCommand p .resetPort o).portRestart_frame p
    have raised := ((s.startCommand p .resetPort o).portRestarted p).raisePortEvent_frame p Reasons.reset
    unfold State.portRestarted at raised ⊢
    generalize (((s.startCommand p .resetPort o).portGone p .attached).appendPortJob p .attached).releaseReset p = v
      at restarted raised ⊢
    generalize v.raisePortEvent p Reasons.reset = t at raised ⊢
    rw [raised, restarted]
    rfl

end Sys2Proof.Machine
end

section
/-! Proofs/Words.lean: the fields of a word as software extracts them, and the register accesses whose words are
fields side by side: the status word, the fourth capture word, the select and control registers. -/

namespace Sys2Proof.Machine

/-! ## Fields and lanes of a word -/

theorem getElem_field (lo width n i : Nat) (hi : i < 32) :
    (field lo width n)[i] = (decide (lo ≤ i) && decide (i - lo < width) && n.testBit (i - lo)) :=
  getLsbD_field lo width n i hi

theorem getElem_flagBit (at' i : Nat) (b : Bool) (hi : i < 32) : (flagBit at' b)[i] = (b && decide (i = at')) :=
  getLsbD_flagBit at' i b hi

/-- A field read back where it was written. -/
theorem extractLsb'_field_same (lo width n : Nat) (h : lo + width ≤ 32) :
    (field lo width n).extractLsb' lo width = BitVec.ofNat width n := by
  ext i hi
  rw [BitVec.getElem_extractLsb', getLsbD_field _ _ _ _ (by omega), ← BitVec.getLsbD_eq_getElem, BitVec.getLsbD_ofNat]
  simp [hi]

/-- A field leaves every other part of the word zero. -/
theorem extractLsb'_field_apart (lo width n start len : Nat) (h : start + len ≤ 32)
    (hd : start + len ≤ lo ∨ lo + width ≤ start) : (field lo width n).extractLsb' start len = 0#len := by
  ext i hi
  rw [BitVec.getElem_extractLsb', getLsbD_field _ _ _ _ (by omega), BitVec.getElem_zero]
  rcases hd with hd | hd
  · rw [decide_eq_false (by omega : ¬lo ≤ start + i), Bool.false_and, Bool.false_and]
  · rw [decide_eq_false (by omega : ¬start + i - lo < width), Bool.and_false, Bool.false_and]

theorem extractLsb'_flagBit_apart (at' : Nat) (b : Bool) (start len : Nat) (h : start + len ≤ 32)
    (hd : start + len ≤ at' ∨ at' < start) : (flagBit at' b).extractLsb' start len = 0#len := by
  cases b
  · exact BitVec.extractLsb'_zero
  · exact extractLsb'_field_apart at' 1 1 start len h hd

/-- Byte 0 decides every bit and field within it. -/
theorem getLsbD_zero_eq (w : Word) : w.getLsbD 0 = (w.extractLsb' 0 8).getLsbD 0 := by
  simp

theorem extractLsb'_four_three_eq (w : Word) : w.extractLsb' 4 3 = (w.extractLsb' 0 8).extractLsb' 4 3 := by
  ext i hi
  rw [BitVec.getElem_extractLsb', BitVec.getElem_extractLsb', BitVec.getLsbD_extractLsb', decide_eq_true (by omega),
    Bool.true_and, Nat.zero_add]

theorem mergeBytes_lane_zero (st : Strobes) (o n : Word) :
    (mergeBytes st o n).extractLsb' 0 8 = if st.getLsbD 0 then n.extractLsb' 0 8 else o.extractLsb' 0 8 :=
  mergeBytes_lane st o n 0

theorem mergeBytes_lane_one (st : Strobes) (o n : Word) :
    (mergeBytes st o n).extractLsb' 8 8 = if st.getLsbD 1 then n.extractLsb' 8 8 else o.extractLsb' 8 8 :=
  mergeBytes_lane st o n 1

theorem strobed_lane_zero (st : Strobes) (n : Word) :
    (strobed st n).extractLsb' 0 8 = if st.getLsbD 0 then n.extractLsb' 0 8 else 0 :=
  (mergeBytes_lane_zero st 0 n).trans (congrArg (ite _ _) BitVec.extractLsb'_zero)

theorem strobed_getLsbD_eight (st : Strobes) (n : Word) :
    (strobed st n).getLsbD 8 = (st.getLsbD 1 && n.getLsbD 8) := by
  have byte (w : Word) : w.getLsbD 8 = (w.extractLsb' 8 8).getLsbD 0 := by simp
  rw [byte (strobed st n), strobed, mergeBytes_lane_one, byte n]
  cases st.getLsbD 1 <;> simp

/-! ## The status word -/

namespace State

variable (s : State) (p : Port)

theorem drive_interface_same (w : Word) : (s.drive p w).interface p = { s.interface p with readData := w } :=
  s.setInterface_interface_same p _

theorem drive_interface_other (w : Word) (r : Port) (h : r ≠ p) : (s.drive p w).interface r = s.interface r :=
  s.setInterface_interface_other p r _ h

theorem clearFlags_interface_same : (s.clearFlags p).interface p = (s.interface p).flagsCleared :=
  s.setInterface_interface_same p _

theorem clearFlags_interface_other (r : Port) (h : r ≠ p) : (s.clearFlags p).interface r = s.interface r :=
  s.setInterface_interface_other p r _ h

end State

/-- Where each field of the status word stands (spec/11). -/
theorem State.statusWord_fields (s : State) (p : Port) :
    (s.statusWord p).getLsbD 0 = (s.interface p).slot.status.busy ∧
      (s.statusWord p).getLsbD 1 = (s.interface p).overrun ∧ (s.statusWord p).getLsbD 2 = (s.interface p).window ∧
      (s.statusWord p).getLsbD 3 = (s.interface p).data ∧ (s.statusWord p).getLsbD 4 = (s.interface p).noack ∧
      (s.statusWord p).extractLsb' 5 3 = 0 ∧
      (s.statusWord p).extractLsb' 8 2 = BitVec.ofNat 2 (s.port p).state.code ∧
      (s.statusWord p).extractLsb' 10 2 = 0 ∧ (s.statusWord p).extractLsb' 12 2 = BitVec.ofNat 2 s.device.code ∧
      (s.statusWord p).extractLsb' 14 2 = 0 ∧ (s.statusWord p).extractLsb' 16 2 = BitVec.ofNat 2 p.val ∧
      (s.statusWord p).extractLsb' 18 14 = 0 := by
  refine ⟨?_, ?_, ?_, ?_, ?_, ?_, ?_, ?_, ?_, ?_, ?_, ?_⟩ <;>
    simp [statusWord, getElem_flagBit, getElem_field, BitVec.extractLsb'_or, extractLsb'_field_same,
      extractLsb'_field_apart, extractLsb'_flagBit_apart]

theorem SlotStatus.busy_eq_true (x : SlotStatus) : x.busy = true ↔ x ≠ .idle := by
  cases x <;> simp [busy]

/-- Settles O47: the word is `statusWord`, field by field, and the flags are cleared before it is driven. -/
theorem statusReadReportsAndClearsTheFlags : Obligations.StatusReadReportsAndClearsTheFlags := by
  intro s p
  obtain ⟨busy, overrun, window, data, noack, gap5, port, gap10, device, gap14, number, gap18⟩ := s.statusWord_fields p
  refine ⟨s.statusWord p, (s.clearFlags p).drive p (s.statusWord p), rfl, ?_, overrun, window, data, noack, gap5, ?_,
    gap10, ?_, gap14, number, gap18, ?_, fun r hr => ?_, rfl⟩
  · rw [busy, SlotStatus.busy_eq_true]
  · rw [port]
    cases (s.port p).state <;> rfl
  · rw [device]
    cases s.device <;> rfl
  · rw [State.drive_interface_same, State.clearFlags_interface_same]
    rfl
  · rw [State.drive_interface_other _ p _ r hr, State.clearFlags_interface_other _ p r hr]

/-! ## The fourth capture word -/

theorem CaptureKind.testBit_code (k : CaptureKind) : k.code.testBit 0 = true ↔ k = .link := by
  cases k <;> simp [code]

/-- Settles O52: the word is driven as the record stood, and the release clears the valid bit and the overflow
count. -/
theorem fourthCaptureWordReadReleasesTheRecord : Obligations.FourthCaptureWordReadReleasesTheRecord := by
  intro s p
  refine ⟨s.captureWord4, rfl, ?_, ?_, ?_⟩
  · simp [State.captureWord4, getElem_flagBit, getElem_field]
  · simpa [State.captureWord4, getElem_flagBit, getElem_field] using s.capture.kind.testBit_code
  · simp [State.captureWord4, BitVec.extractLsb'_or, extractLsb'_field_apart, extractLsb'_flagBit_apart]

/-! ## The select and control registers -/

/-- The control register as read gives back the two settings (spec/11). -/
theorem PortInterface.controlWord_fields (i : PortInterface) :
    i.controlWord.getLsbD 0 = i.noticeEnable ∧ i.controlWord.extractLsb' 1 3 = 0 ∧
      i.controlWord.extractLsb' 4 3 = i.systemLevel ∧ i.controlWord.extractLsb' 7 25 = 0 := by
  refine ⟨?_, ?_, ?_, ?_⟩ <;>
    simp [controlWord, getElem_flagBit, getElem_field, BitVec.extractLsb'_or, extractLsb'_field_same,
      extractLsb'_field_apart, extractLsb'_flagBit_apart]

/-- The control register's settings lie in byte 0: without its strobe a write changes nothing (R170). -/
theorem PortInterface.withControl_mergeBytes (i : PortInterface) (st : Strobes) (data : Word) :
    i.withControl (mergeBytes st i.controlWord data) =
      if st.getLsbD 0 then { i with noticeEnable := data.getLsbD 0, systemLevel := data.extractLsb' 4 3 } else i := by
  obtain ⟨enable, -, level, -⟩ := i.controlWord_fields
  unfold withControl
  rw [getLsbD_zero_eq (mergeBytes st _ _), extractLsb'_four_three_eq (mergeBytes st _ _), mergeBytes_lane_zero]
  split
  · rw [← getLsbD_zero_eq, ← extractLsb'_four_three_eq]
  · rw [← getLsbD_zero_eq, ← extractLsb'_four_three_eq, enable, level]

/-- What a select write stores: the strobed present bit and handle (R32, R170). -/
theorem selectOf_strobed (st : Strobes) (data : Word) :
    selectOf (strobed st data) =
      if st.getLsbD 1 = true ∧ data.getLsbD 8 = true
        then some (if st.getLsbD 0 then data.extractLsb' 0 8 else 0) else none := by
  rw [selectOf, strobed_getLsbD_eight, strobed_lane_zero]
  simp only [Bool.and_eq_true]

/-- Settles O48: a DOWN port holds both registers; otherwise only strobed bytes count, and the control register's lie in
byte 0. -/
theorem selectAndControlWritesAreLocal : Obligations.SelectAndControlWritesAreLocal := by
  intro s p data strobes
  refine ⟨fun h => congrArg _ (if_pos h), fun hs h0 => ?_, fun h => ?_, fun hs h0 => ?_⟩
  · rw [← selectOf_strobed]
    exact congrArg _ (if_neg (not_or.2 ⟨hs, h0⟩))
  · show Host.Outcome.next (s.controlWrite p data strobes) = _
    rw [State.controlWrite]
    split
    · rfl
    · next hs =>
      rw [PortInterface.withControl_mergeBytes, h.resolve_left hs, if_neg Bool.false_ne_true, s.setInterface_self]
  · show Host.Outcome.next (s.controlWrite p data strobes) = _
    rw [State.controlWrite, if_neg hs, PortInterface.withControl_mergeBytes, if_pos h0]

end Sys2Proof.Machine
end

section
/-! Proofs/CommandWord.lean: the tables of spec/11 (command codes, outcome codes, operand fields) and what a write of
the command word makes of a command slot. -/

namespace Sys2Proof.Machine

/-! ## The tables of spec/11 -/

/-- The code of a command (spec/11). -/
def CommandCode.number : CommandCode → BitVec 8
  | .allocate => 0x01 | .put => 0x02 | .take => 0x03 | .release => 0x04 | .renew => 0x05 | .giveBack => 0x06
  | .query => 0x07 | .claim => 0x08 | .unclaim => 0x09 | .format => 0x10 | .defineQueue => 0x11
  | .modifyQueue => 0x12 | .purgeQueue => 0x13 | .deleteQueue => 0x14 | .setPort => 0x15 | .fencePort => 0x16
  | .unfencePort => 0x17 | .resetPort => 0x18

/-- One row of a table searched row by row. -/
theorem eq_some_of_ite {α : Type} {row : Prop} [Decidable row] {a c : α} {rest : Option α}
    (h : (if row then some a else rest) = some c) : (row ∧ a = c) ∨ rest = some c := by
  split at h
  · next hrow => exact .inl ⟨hrow, Option.some.inj h⟩
  · exact .inr h

theorem CommandCode.ofCode_eq_some (code : BitVec 8) (c : CommandCode) :
    CommandCode.ofCode code = some c ↔ code = CommandCode.number c := by
  constructor
  · intro h
    unfold ofCode at h
    iterate 18
      obtain ⟨hcode, rfl⟩ | h := eq_some_of_ite h
      · exact hcode
    cases h
  · rintro rfl
    cases c <;> rfl

/-- A bit of the conditions field of a settings word. -/
theorem conditions_bit (w : Word) :
    (w.extractLsb' 8 3 &&& Reasons.arrival ≠ 0 ↔ w.getLsbD 8 = true) ∧
      (w.extractLsb' 8 3 &&& Reasons.high ≠ 0 ↔ w.getLsbD 9 = true) ∧
      (w.extractLsb' 8 3 &&& Reasons.low ≠ 0 ↔ w.getLsbD 10 = true) := by
  have bits : ∀ x : BitVec 3, (x &&& Reasons.arrival ≠ 0 ↔ x.getLsbD 0 = true) ∧
      (x &&& Reasons.high ≠ 0 ↔ x.getLsbD 1 = true) ∧ (x &&& Reasons.low ≠ 0 ↔ x.getLsbD 2 = true) := by decide
  simpa using bits (w.extractLsb' 8 3)

theorem toFin_eq_iff {w : Nat} (x : BitVec w) (n : Fin (2 ^ w)) : x.toFin = n ↔ n.val = x.toNat := by
  rw [Fin.ext_iff, BitVec.val_toFin, eq_comm]

namespace Operands

variable (o : Operands)

theorem queue?_eq_some_iff (q : QueueNo) : o.queue? = some q ↔ q.val = o.queueField := by
  unfold queue?
  split
  · rw [Option.some.injEq, Fin.ext_iff, eq_comm]
  · next h => exact iff_of_false (by simp) (by omega)

theorem target?_eq_some_iff (r : Port) : o.target? = some r ↔ r.val = (o[0].extractLsb' 0 3).toNat := by
  unfold target?
  split
  · rw [Option.some.injEq, Fin.ext_iff, eq_comm]
  · next h => exact iff_of_false (by simp) (by omega)

theorem listEnd_eq_head : o.listEnd = .head ↔ o[1].getLsbD 8 = true := by
  unfold listEnd
  split
  · next h => exact iff_of_true rfl h
  · next h => exact iff_of_false (by simp) h

/-- The target field is taken where its presence bit is set (R171). -/
theorem settings_target (r : Port) :
    o.settings.target = some r ↔ o[3].getLsbD 18 = true ∧ r.val = (o[3].extractLsb' 16 2).toNat := by
  unfold settings
  dsimp only
  rw [Option.ite_none_right_eq_some, Option.some.injEq]
  exact and_congr_right fun _ => toFin_eq_iff (w := 2) _ r

theorem settings_spill (q : QueueNo) :
    o.settings.spill = some q ↔ o[3].getLsbD 31 = true ∧ q.val = (o[3].extractLsb' 24 6).toNat := by
  unfold settings
  dsimp only
  rw [Option.ite_none_right_eq_some, Option.some.injEq]
  exact and_congr_right fun _ => toFin_eq_iff (w := 6) _ q

end Operands

/-! ## The command word (R63, R64) -/

section CommandWord

variable {s : State} {p : Port} {data : Word} {strobes : Strobes}

/-- A strobed write takes the code of byte 0, or 0 without its strobe (R170). -/
theorem exec_commandWordWrite (h : strobes ≠ 0) :
    exec (.commandWordWrite p data strobes) s =
      .next (s.writeCommandWord p (CommandCode.ofCode (if strobes.getLsbD 0 then data.extractLsb' 0 8 else 0))) := by
  show Host.Outcome.next (s.commandWordWrite p data strobes) = _
  rw [State.commandWordWrite, if_neg h, commandCode, strobed_lane_zero]

theorem exec_commandWordWrite_busy (h : strobes ≠ 0) (hb : (s.interface p).slot.status ≠ .idle) :
    exec (.commandWordWrite p data strobes) s = .next (s.setFlag p .overrun) := by
  rw [exec_commandWordWrite h, State.writeCommandWord, if_pos ((SlotStatus.busy_eq_true _).2 hb)]

theorem exec_commandWordWrite_idle (h : strobes ≠ 0) (hi : (s.interface p).slot.status = .idle) :
    exec (.commandWordWrite p data strobes) s =
      .next (s.commandToIdleSlot p
        (CommandCode.ofCode (if strobes.getLsbD 0 then data.extractLsb' 0 8 else 0))) := by
  rw [exec_commandWordWrite h, State.writeCommandWord, if_neg (by simp [hi, SlotStatus.busy])]

end CommandWord

namespace State

variable (s : State) (p : Port) (c : Option CommandCode)

theorem commandToIdleSlot_of_fenced (h : (s.port p).state = .fenced) :
    s.commandToIdleSlot p c = s.writeOutcome p .fenced noResults := by
  simp only [commandToIdleSlot, h, completeLocally]

theorem commandToIdleSlot_of_away (h : (s.port p).state = .reclaiming ∨ (s.port p).state = .down) :
    s.commandToIdleSlot p c = s.writeOutcome p .notReady noResults := by
  rcases h with h | h <;> simp only [commandToIdleSlot, h, completeLocally]

theorem commandToIdleSlot_of_attached (h : (s.port p).state = .attached) :
    s.commandToIdleSlot p c =
      match c with
      | none => s.writeOutcome p .badOperand noResults
      | some x => s.acceptCommand p x := by
  cases c <;> simp only [commandToIdleSlot, h, completeLocally]

end State

/-- Settles O46: the tables are those of `CommandCode.number` and the operand fields' definitions; the write is decided by
the slot, then the port's state, then the code. -/
theorem commandWordIsAcceptedOrAnsweredLocally : Obligations.CommandWordIsAcceptedOrAnsweredLocally := by
  refine ⟨fun code c => ?_, fun x => ?_, fun o => ?_, fun s p data strobes => ⟨?_, ?_⟩⟩
  · exact CommandCode.ofCode_eq_some code c
  · cases x <;> rfl
  · obtain ⟨arrival, high, low⟩ := conditions_bit o[3]
    exact ⟨rfl, rfl, rfl, o.queue?_eq_some_iff, o.listEnd_eq_head, rfl, rfl, rfl, rfl, rfl, o.target?_eq_some_iff, rfl, rfl,
      rfl, rfl, rfl, arrival, high, low, rfl, o.settings_target, o.settings_spill, rfl, rfl, rfl, rfl⟩
  · rintro rfl
    rfl
  · intro h0 code hcode
    subst hcode
    refine ⟨fun hbusy => ?_, fun hidle => ⟨fun hs => ?_, fun hs => ?_, fun hs hnone => ?_, fun c hs hsome => ?_⟩⟩
    · have busy : (s.interface p).slot.status ≠ .idle := by
        rcases hbusy with ⟨r, hr⟩ | ⟨r, hr⟩ <;> simp [hr]
      rw [exec_commandWordWrite_busy h0 busy]
      rfl
    · rw [exec_commandWordWrite_idle h0 hidle, s.commandToIdleSlot_of_fenced p _ hs]
      rfl
    · rw [exec_commandWordWrite_idle h0 hidle, s.commandToIdleSlot_of_away p _ hs]
      rfl
    · rw [exec_commandWordWrite_idle h0 hidle, s.commandToIdleSlot_of_attached p _ hs, hnone]
      rfl
    · rw [exec_commandWordWrite_idle h0 hidle, s.commandToIdleSlot_of_attached p _ hs, hsome]
      rfl

end Sys2Proof.Machine
end

section
/-! Proofs/RegisterArea.lean: the register area map (R169): what a write of the row REGISTER_WRITE changes, and the
word that a read finds at each offset. -/

namespace Sys2Proof.Machine

theorem operandIndex_eq_some {offset : RegisterOffset} {k : Fin 8} (h : offset.toNat = 4 * k.val) :
    operandIndex offset = some k := by
  unfold operandIndex
  rw [dif_pos (by omega)]
  exact congrArg some (Fin.ext (by show offset.toNat / 4 = k.val; omega))

theorem operandIndex_eq_none {offset : RegisterOffset} (h : 0x20 ≤ offset.toNat) : operandIndex offset = none := by
  unfold operandIndex
  rw [dif_neg (by omega)]

/-! ## Writes -/

namespace State

variable (s : State) (p : Port)

theorem registerWrite_operand {offset : RegisterOffset} {k : Fin 8} (h : offset.toNat = 4 * k.val) (data : Word)
    (strobes : Strobes) : s.registerWrite p offset data strobes = s.operandWrite p k data strobes := by
  simp only [registerWrite, operandIndex_eq_some h]

/-- A well-formed write of the row is one of the register area (R169). -/
theorem busAccess_write (offset : WindowOffset) (data : Word) (strobes : Strobes)
    (h : (Instr.registerWrite p offset data (.write strobes)).wellFormed = true) :
    s.busAccess p offset data (.write strobes) = s.registerWrite p (offset.extractLsb' 0 10) data strobes := by
  obtain ⟨-, hlt, -, -⟩ := registerWrite_wellFormed p offset data (.write strobes) h
  have hd : reachesDataWindow offset = false := by
    unfold reachesDataWindow
    rw [BitVec.getLsbD, Nat.testBit_eq_decide_div_mod_eq, decide_eq_false_iff_not]
    omega
  simp only [busAccess, hd, Bool.false_eq_true, if_false]

/-- Beyond the operand words it reaches no register that a write changes. -/
theorem registerWrite_discarded (offset : WindowOffset) (data : Word) (strobes : Strobes)
    (h : (Instr.registerWrite p offset data (.write strobes)).wellFormed = true) (hlow : 0x20 ≤ offset.toNat) :
    s.registerWrite p (offset.extractLsb' 0 10) data strobes = s := by
  obtain ⟨h4, -, he, hr⟩ := registerWrite_wellFormed p offset data (.write strobes) h
  simp only [accessHasOwnRow, writeHasOwnRow, Bool.or_eq_false_iff, beq_eq_false_iff_ne, ne_eq,
    ← BitVec.toNat_inj, BitVec.toNat_ofNat] at hr
  obtain ⟨⟨⟨h20, h44⟩, h48⟩, h54⟩ := hr
  simp only [registerWrite, operandIndex_eq_none (by omega : 0x20 ≤ (offset.extractLsb' 0 10).toNat), he]
  rw [if_neg (by omega), if_neg (by omega), if_neg (by omega), if_neg (by omega)]

theorem operandWrite_interface_same (k : Fin 8) (data : Word) (strobes : Strobes) :
    (s.operandWrite p k data strobes).interface p =
      { s.interface p with
        operands := (s.interface p).operands.set k (mergeBytes strobes (s.interface p).operands[k] data) } :=
  s.setInterface_interface_same p _

theorem operandWrite_interface_other (k : Fin 8) (data : Word) (strobes : Strobes) (r : Port) (h : r ≠ p) :
    (s.operandWrite p k data strobes).interface r = s.interface r :=
  s.setInterface_interface_other p r _ h

/-! ## Reads: the word at each offset -/

section Word

variable {s p} {offset : RegisterOffset}

theorem registerWord_operand {k : Fin 8} (h : offset.toNat = 4 * k.val) :
    s.registerWord p offset = (s.interface p).operands[k] := by
  simp only [registerWord, operandIndex_eq_some h]

/-- Above the operand words the map is searched in the order of its offsets. -/
theorem registerWord_outcome (h : offset.toNat = 0x024) : s.registerWord p offset = (s.interface p).outcome := by
  simp [registerWord, operandIndex, h]

theorem registerWord_result {k : Fin 4} (h : offset.toNat = 0x028 + 4 * k.val) :
    s.registerWord p offset = (s.interface p).results[k] := by
  have index : offset.toNat / 4 - 10 = k.val := by omega
  simp only [registerWord, operandIndex_eq_none (by omega : 0x20 ≤ offset.toNat), Nat.reduceDiv]
  rw [if_neg (by omega), dif_pos (by omega)]
  simp only [index]
  rfl

theorem registerWord_select (h : offset.toNat = 0x044) :
    s.registerWord p offset = selectWord (s.interface p).select := by
  simp [registerWord, operandIndex, h]

theorem registerWord_control (h : offset.toNat = 0x048) :
    s.registerWord p offset = (s.interface p).controlWord := by
  simp [registerWord, operandIndex, h]

theorem registerWord_capture1 (h : offset.toNat = 0x060) : s.registerWord p offset = s.captureWord1 := by
  simp [registerWord, operandIndex, h]

theorem registerWord_capture2 (h : offset.toNat = 0x064) : s.registerWord p offset = s.captureWord2 := by
  simp [registerWord, operandIndex, h]

theorem registerWord_capture3 (h : offset.toNat = 0x068) : s.registerWord p offset = s.captureWord3 := by
  simp [registerWord, operandIndex, h]

/-- A write-only register and an offset the map does not name read zero (R169). -/
theorem registerWord_unnamed (h4 : offset.toNat % 4 = 0)
    (h : offset.toNat = 0x020 ∨ (0x038 ≤ offset.toNat ∧ offset.toNat < 0x040) ∨ offset.toNat = 0x04C ∨
      (0x054 ≤ offset.toNat ∧ offset.toNat < 0x060) ∨ 0x070 ≤ offset.toNat) :
    s.registerWord p offset = 0 := by
  simp only [registerWord, operandIndex_eq_none (by omega : 0x20 ≤ offset.toNat), Nat.reduceDiv]
  rw [if_neg (by omega), dif_neg (by omega), if_neg (by omega), if_neg (by omega), if_neg (by omega),
    if_neg (by omega), if_neg (by omega), if_neg (by omega), if_neg (by omega), if_neg (by omega)]

end Word

end State

/-! ## The words of the map, field by field -/

theorem selectWord_some (h : Handle) :
    (selectWord (some h)).extractLsb' 0 8 = h ∧ (selectWord (some h)).getLsbD 8 = true ∧
      (selectWord (some h)).extractLsb' 9 23 = 0 := by
  refine ⟨?_, ?_, ?_⟩ <;>
    simp [selectWord, getElem_flagBit, getElem_field, BitVec.extractLsb'_or, extractLsb'_field_same,
      extractLsb'_field_apart, extractLsb'_flagBit_apart]

theorem Access.testBit_code (a : Access) : a.code.testBit 0 = true ↔ a = .write := by
  cases a <;> simp [code]

theorem Agent.code_lt (a : Agent) : a.code < 8 := by
  cases a with
  | port p => exact Nat.lt_trans p.isLt (by decide)
  | engine => decide
  | reclaimUnit => decide

theorem State.captureWord1_fields (s : State) :
    s.captureWord1.getLsbD 0 = s.capture.valid ∧ (s.captureWord1.getLsbD 1 = true ↔ s.capture.kind = .link) ∧
      s.captureWord1.extractLsb' 2 2 = 0 ∧ (s.captureWord1.extractLsb' 4 12).toNat = s.capture.location.val ∧
      (s.captureWord1.extractLsb' 16 3).toNat = s.capture.word.val ∧ s.captureWord1.getLsbD 19 = false ∧
      (s.captureWord1.extractLsb' 20 3).toNat = s.capture.agent.code ∧ s.captureWord1.getLsbD 23 = false ∧
      (s.captureWord1.getLsbD 24 = true ↔ s.capture.access = .write) ∧ s.captureWord1.extractLsb' 25 7 = 0 := by
  have agent := s.capture.agent.code_lt
  have link : s.captureWord1.getLsbD 1 = s.capture.kind.code.testBit 0 := by
    simp [captureWord1, getElem_flagBit, getElem_field]
  have write : s.captureWord1.getLsbD 24 = s.capture.access.code.testBit 0 := by
    simp [captureWord1, getElem_flagBit, getElem_field]
  refine ⟨?_, ?_, ?_, ?_, ?_, ?_, ?_, ?_, ?_, ?_⟩
  · simp [captureWord1, getElem_flagBit, getElem_field]
  · rw [link, s.capture.kind.testBit_code]
  · simp [captureWord1, BitVec.extractLsb'_or, extractLsb'_field_apart, extractLsb'_flagBit_apart]
  · simp [captureWord1, BitVec.extractLsb'_or, extractLsb'_field_same, extractLsb'_field_apart,
      extractLsb'_flagBit_apart]
  · simp [captureWord1, BitVec.extractLsb'_or, extractLsb'_field_same, extractLsb'_field_apart,
      extractLsb'_flagBit_apart]
  · simp [captureWord1, getElem_flagBit, getElem_field]
  · simp [captureWord1, BitVec.extractLsb'_or, extractLsb'_field_same, extractLsb'_field_apart,
      extractLsb'_flagBit_apart, Nat.mod_eq_of_lt agent]
  · simp [captureWord1, getElem_flagBit, getElem_field]
  · rw [write, s.capture.access.testBit_code]
  · simp [captureWord1, BitVec.extractLsb'_or, extractLsb'_field_apart, extractLsb'_flagBit_apart]

theorem State.captureWord2_fields (s : State) :
    s.captureWord2.extractLsb' 0 16 = s.correctable ∧ s.captureWord2.extractLsb' 16 16 = s.uncorrectable := by
  constructor <;> simp [captureWord2, BitVec.extractLsb'_or, extractLsb'_field_same, extractLsb'_field_apart]

theorem State.captureWord3_fields (s : State) :
    s.captureWord3.extractLsb' 0 8 = s.overflow ∧ s.captureWord3.extractLsb' 8 24 = 0 := by
  constructor <;> simp [captureWord3, extractLsb'_field_same, extractLsb'_field_apart]

/-- Settles O45: a write reaches an operand word or nothing; a read drives `registerWord`, whose value at each offset is
one of the lemmas above. -/
theorem registerAccessIsServedByTheMap : Obligations.RegisterAccessIsServedByTheMap := by
  intro s p offset data
  refine ⟨fun strobes hwf => ?_, fun hwf => ?_⟩
  · obtain ⟨-, -, he, -⟩ := State.registerWrite_wellFormed p offset data (.write strobes) hwf
    have served : exec (.registerWrite p offset data (.write strobes)) s =
        .next (s.registerWrite p (offset.extractLsb' 0 10) data strobes) :=
      congrArg Host.Outcome.next (s.busAccess_write p offset data strobes hwf)
    refine ⟨fun hlow => ?_, fun k hk => ?_⟩
    · rw [served, s.registerWrite_discarded p offset data strobes hwf hlow]
    · rw [s.registerWrite_operand p (he.trans hk)] at served
      refine ⟨s.operandWrite p k data strobes, served, ?_, fun j => ?_, fun l hl => ?_, fun r hr => ?_, rfl⟩
      · rw [State.operandWrite_interface_same]
      · rw [State.operandWrite_interface_same]
        simpa using mergeBytes_lane strobes (s.interface p).operands[k] data j
      · rw [State.operandWrite_interface_same]
        exact Vector.getElem_set_ne k.isLt l.isLt fun e => hl (Fin.ext e.symm)
      · rw [State.operandWrite_interface_other _ _ _ _ _ r hr]
  · obtain ⟨h4, -, he, -⟩ := State.registerWrite_wellFormed p offset data .read hwf
    refine ⟨s.registerWord p (offset.extractLsb' 0 10), congrArg _ (s.busAccess_read p offset data hwf), ?_⟩
    rw [← he] at h4 ⊢
    generalize offset.extractLsb' 0 10 = place at h4 ⊢
    refine ⟨fun k hk => State.registerWord_operand hk, State.registerWord_outcome, fun k hk => State.registerWord_result hk,
      fun h => ⟨fun hn => ?_, fun x hx => ?_⟩, fun h => ?_, fun h => ?_, fun h => ?_, fun h => ?_,
      State.registerWord_unnamed h4⟩
    · rw [State.registerWord_select h, hn]
      rfl
    · rw [State.registerWord_select h, hx]
      exact selectWord_some x
    · rw [State.registerWord_control h]
      exact (s.interface p).controlWord_fields
    · rw [State.registerWord_capture1 h]
      obtain ⟨valid, link, gap2, location, word, gap19, agent, gap23, write, gap25⟩ := s.captureWord1_fields
      refine ⟨valid, link, gap2, location, word, gap19, ?_, gap23, write, gap25⟩
      rw [agent]
      cases s.capture.agent <;> rfl
    · rw [State.registerWord_capture2 h]
      exact s.captureWord2_fields
    · rw [State.registerWord_capture3 h]
      exact s.captureWord3_fields

end Sys2Proof.Machine
end

section
/-! Proofs/NoticeRead.lean: the order of pending records as one number, the record that a notice read pushes, and the
notice line. -/

namespace Sys2Proof.Machine

/-! ## The order of R122 as a number -/

/-- Level, kind and source side by side: a record is served before another exactly where this number is lower (R122). -/
def Notice.rank (n : Notice) : Nat := 256 * n.level.toNat + 64 * n.kind.code + n.source.toNat

theorem NoticeKind.code_lt (k : NoticeKind) : k.code < 4 := by
  cases k <;> simp [code]

theorem NoticeKind.code_inj {a b : NoticeKind} : a.code = b.code ↔ a = b := by
  cases a <;> cases b <;> simp [code]

theorem Notice.before_iff (a b : Notice) : a.before b = true ↔ a.rank < b.rank := by
  have ka := a.kind.code_lt
  have kb := b.kind.code_lt
  have sa := a.source.isLt
  have sb := b.source.isLt
  unfold before rank
  split
  · next h =>
    rw [ne_eq, ← BitVec.toNat_inj] at h
    rw [decide_eq_true_iff]
    omega
  · next h =>
    rw [not_not, ← BitVec.toNat_inj] at h
    split
    · next hk =>
      rw [ne_eq, ← NoticeKind.code_inj] at hk
      rw [decide_eq_true_iff]
      omega
    · next hk =>
      rw [not_not, ← NoticeKind.code_inj] at hk
      rw [decide_eq_true_iff]
      omega

theorem Notice.precedes_iff (a b : Notice) : a.precedes b ↔ a.rank < b.rank := by
  have ka := a.kind.code_lt
  have kb := b.kind.code_lt
  have sa := a.source.isLt
  have sb := b.source.isLt
  unfold precedes rank
  rw [← BitVec.toNat_inj, ← NoticeKind.code_inj]
  omega

/-- Records of one rank share kind and source. -/
theorem Notice.sameKey_of_rank {a b : Notice} (h : a.rank = b.rank) : a.sameKey b = true := by
  have ka := a.kind.code_lt
  have kb := b.kind.code_lt
  have sa := a.source.isLt
  have sb := b.source.isLt
  unfold rank at h
  exact (a.sameKey_iff b).2 ⟨NoticeKind.code_inj.1 (by omega), BitVec.toNat_inj.1 (by omega)⟩

theorem firstNotice_eq_none (set : List Notice) : firstNotice set = none ↔ set = [] := by
  cases set with
  | nil => exact iff_of_true rfl rfl
  | cons x rest =>
    refine iff_of_false ?_ (by simp)
    unfold firstNotice
    split
    · simp
    · split <;> simp

/-- The first record has the lowest rank. -/
theorem firstNotice_rank_le {set : List Notice} {n : Notice} (h : firstNotice set = some n) :
    ∀ x ∈ set, n.rank ≤ x.rank := by
  induction set generalizing n with
  | nil => cases h
  | cons y rest ih =>
    rw [List.forall_mem_cons]
    unfold firstNotice at h
    split at h
    · next hnone =>
      cases h
      rw [(firstNotice_eq_none rest).1 hnone]
      exact ⟨le_rfl, by simp⟩
    · next z hz =>
      split at h
      · next hbefore =>
        cases h
        exact ⟨((n.before_iff y).1 hbefore).le, ih hz⟩
      · next hbefore =>
        cases h
        have hle : y.rank ≤ z.rank := Nat.not_lt.1 (mt (z.before_iff y).2 hbefore)
        exact ⟨le_rfl, fun x hx => hle.trans (ih hz x hx)⟩

/-! ## The record a notice read pushes (R124) -/

namespace NoticeUnit

variable {u : NoticeUnit} {n : Notice}

theorem admits_eq_true : u.admits n = true ↔ u.mayPush n := by
  unfold admits mayPush
  split
  · next h => simp [h]
  · next h => simp [h]

/-- Where no two pending records share kind and source, the search finds the first in the order. -/
theorem firstNotice_eq_some (h : u.PendingLaw) : firstNotice u.pendingSet = some n ↔ u.firstPending n := by
  constructor
  · intro hn
    refine ⟨firstNotice_mem hn, fun x hx hne => (n.precedes_iff x).2 ?_⟩
    refine (firstNotice_rank_le hn x hx).lt_of_ne fun hrank => hne ?_
    exact h.eq_of_sameKey hx (firstNotice_mem hn) (Notice.sameKey_of_rank hrank.symm)
  · rintro ⟨hmem, hfirst⟩
    cases hy : firstNotice u.pendingSet with
    | none =>
      rw [(firstNotice_eq_none _).1 hy] at hmem
      cases hmem
    | some y =>
      by_contra hne
      have below := (n.precedes_iff y).1 (hfirst y (firstNotice_mem hy) fun e => hne (congrArg some e))
      exact absurd (firstNotice_rank_le hy n hmem) (Nat.not_le.2 below)

theorem eligible_eq_some : u.eligible = some n ↔ firstNotice u.pendingSet = some n ∧ u.mayPush n := by
  unfold eligible
  split
  · next h => simp [h]
  · next x hx =>
    rw [hx, Option.ite_none_right_eq_some, admits_eq_true, Option.some.injEq]
    refine ⟨?_, ?_⟩
    · rintro ⟨hpush, rfl⟩
      exact ⟨rfl, hpush⟩
    · rintro ⟨rfl, hpush⟩
      exact ⟨hpush, rfl⟩

/-- Some record is eligible exactly where some pending record may be pushed: the first is as urgent as any. -/
theorem eligible_isSome : u.eligible.isSome = true ↔ ∃ n ∈ u.pendingSet, u.mayPush n := by
  rw [Option.isSome_iff_exists]
  constructor
  · rintro ⟨n, hn⟩
    obtain ⟨hfirst, hpush⟩ := eligible_eq_some.1 hn
    exact ⟨n, firstNotice_mem hfirst, hpush⟩
  · rintro ⟨n, hn, hpush⟩
    cases hx : firstNotice u.pendingSet with
    | none =>
      rw [(firstNotice_eq_none _).1 hx] at hn
      cases hn
    | some x =>
      refine ⟨x, eligible_eq_some.2 ⟨hx, fun top htop => ?_⟩⟩
      have hrank := firstNotice_rank_le hx n hn
      have hlevel := hpush top htop
      have kn := n.kind.code_lt
      have sn := n.source.isLt
      unfold Notice.rank at hrank
      omega

theorem afterRead_of_eligible (h : u.eligible = some n) :
    u.afterRead = { pendingSet := withoutKey n u.pendingSet, active := n :: u.active } := by
  simp only [afterRead, h]

theorem afterRead_of_none (h : u.eligible = none) : u.afterRead = u := by
  simp only [afterRead, h]

/-- A read takes the record it pushes out of the pending set, and no other. -/
theorem mem_afterRead (h : u.PendingLaw) (hn : u.eligible = some n) (x : Notice) :
    x ∈ u.afterRead.pendingSet ↔ x ∈ u.pendingSet ∧ x ≠ n := by
  have pending : n ∈ u.pendingSet := firstNotice_mem (eligible_eq_some.1 hn).1
  rw [afterRead_of_eligible hn, mem_withoutKey]
  refine and_congr_right fun hx => ⟨?_, fun hne => ?_⟩
  · rintro hkey rfl
    rw [(x.sameKey_iff x).2 ⟨rfl, rfl⟩] at hkey
    cases hkey
  · exact Bool.eq_false_iff.2 fun hkey => hne (h.eq_of_sameKey hx pending hkey)

end NoticeUnit

/-! ## The notice word -/

theorem noticeWord_depth (n : Option Notice) {depth : Nat} (h : depth ≤ 8) :
    ((noticeWord n depth).extractLsb' 24 4).toNat = depth := by
  have fits : depth % 2 ^ 4 = depth := Nat.mod_eq_of_lt (by omega)
  cases n with
  | none => simpa [noticeWord, extractLsb'_field_same] using fits
  | some x =>
    simpa [noticeWord, BitVec.extractLsb'_or, extractLsb'_field_same, extractLsb'_field_apart,
      extractLsb'_flagBit_apart] using fits

theorem noticeWord_none (depth : Nat) :
    (noticeWord none depth).getLsbD 31 = false ∧ (noticeWord none depth).extractLsb' 0 24 = 0 := by
  constructor
  · simp [noticeWord, getElem_field]
  · simp [noticeWord, extractLsb'_field_apart]

theorem noticeWord_some (n : Notice) (depth : Nat) :
    (noticeWord (some n) depth).getLsbD 31 = true ∧
      (noticeWord (some n) depth).extractLsb' 0 2 = BitVec.ofNat 2 n.kind.code ∧
      (noticeWord (some n) depth).extractLsb' 8 6 = n.source ∧ (noticeWord (some n) depth).extractLsb' 16 3 = n.level ∧
      (noticeWord (some n) depth).extractLsb' 20 3 = n.reasons := by
  refine ⟨?_, ?_, ?_, ?_, ?_⟩ <;>
    simp [noticeWord, getElem_flagBit, getElem_field, BitVec.extractLsb'_or, extractLsb'_field_same,
      extractLsb'_field_apart, extractLsb'_flagBit_apart]

/-! ## The notice read and the notice line -/

namespace State

variable (s : State) (p : Port)

theorem pushNotice_noticeUnit_same : (s.pushNotice p).noticeUnit p = (s.noticeUnit p).afterRead :=
  s.setNoticeUnit_noticeUnit_same p _

theorem pushNotice_noticeUnit_other (r : Port) (h : r ≠ p) : (s.pushNotice p).noticeUnit r = s.noticeUnit r :=
  s.setNoticeUnit_noticeUnit_other p r _ h

theorem noticeLine_eq_true :
    s.noticeLine p = true ↔ s.device = .halted ∨
      ((s.interface p).noticeEnable = true ∧ ∃ n ∈ (s.noticeUnit p).pendingSet, (s.noticeUnit p).mayPush n) := by
  rw [noticeLine, Bool.or_eq_true, Bool.and_eq_true, NoticeUnit.eligible_isSome, beq_iff_eq]

end State

/-- Settles O50: the line asks for an eligible record, and the read pushes it; the record found by the search is the first
in the order since no two pending records share kind and source. -/
theorem noticeReadPushesTheFirstEligibleRecord : Obligations.NoticeReadPushesTheFirstEligibleRecord := by
  refine ⟨fun s p => ⟨fun hd => (s.noticeLine_eq_true p).2 (.inl hd), s.noticeLine_eq_true p⟩, fun s p hp hs => ?_⟩
  have unit : ((s.pushNotice p).drive p (s.noticeUnit p).readWord).noticeUnit p = (s.noticeUnit p).afterRead :=
    s.pushNotice_noticeUnit_same p
  obtain ⟨⟨-, depth⟩, -⟩ := NoticeUnit.Sound.afterRead ⟨hs, hp⟩
  refine ⟨(s.noticeUnit p).readWord, (s.pushNotice p).drive p (s.noticeUnit p).readWord, rfl,
    State.drive_interface_same _ p _, fun r hr => State.drive_interface_other _ p _ r hr,
    fun r hr => s.pushNotice_noticeUnit_other p r hr, rfl, ?_, fun n hfirst hpush => ?_, fun hnone => ?_⟩
  · rw [unit]
    exact noticeWord_depth _ depth
  · have eligible := NoticeUnit.eligible_eq_some.2 ⟨(NoticeUnit.firstNotice_eq_some hp).2 hfirst, hpush⟩
    obtain ⟨valid, kind, source, level, reasons⟩ := noticeWord_some n (s.noticeUnit p).afterRead.active.length
    rw [unit, NoticeUnit.readWord, eligible]
    refine ⟨NoticeUnit.mem_afterRead hp eligible, ?_, valid, ?_, source, level, reasons⟩
    · rw [NoticeUnit.afterRead_of_eligible eligible]
    · rw [kind]
      cases n.kind <;> rfl
  · have ineligible : (s.noticeUnit p).eligible = none := by
      rw [Option.eq_none_iff_forall_ne_some]
      intro n hn
      obtain ⟨hfirst, hpush⟩ := NoticeUnit.eligible_eq_some.1 hn
      exact hnone n ((NoticeUnit.firstNotice_eq_some hp).1 hfirst) hpush
    rw [unit, NoticeUnit.readWord, ineligible, NoticeUnit.afterRead_of_none ineligible]
    exact ⟨rfl, noticeWord_none _⟩

end Sys2Proof.Machine
end

section
/-! Proofs/QueueWalks.lean: QUERY, PURGE QUEUE and DELETE QUEUE, and the reclaim unit's walk of a queue. -/

namespace Sys2Proof.Machine

/-! ## QUERY -/

section Query

variable {s : State} {p : Port} {o : Operands} {x : OutcomeCode} {rs : Results} {q : QueueNo}

theorem queryCheck_badOperand (h : 64 < o.queueField ∨ 1 < o.page) : queryCheck s p o = .error .badOperand := by
  unfold queryCheck
  split
  · rfl
  · next hq => rw [if_pos (h.resolve_left hq)]

theorem queryCheck_queue (hq : q.val = o.queueField) (hp : o.page ≤ 1) :
    queryCheck s p o = .ok (if o.page = 0 then queryCounts (s.queue q) else queryCounters (s.queue q)) := by
  have inRange : ¬ 64 < o.queueField := by omega
  simp only [queryCheck, if_neg inRange, if_neg (Nat.not_lt.2 hp), State.queue?_eq_some o q hq]

theorem queryCheck_device (hq : o.queueField = 64) (hp : o.page ≤ 1) :
    queryCheck s p o = .ok (if o.page = 0 then queryDevice s else queryPort s p) := by
  have inRange : ¬ 64 < o.queueField := by omega
  simp only [queryCheck, if_neg inRange, if_neg (Nat.not_lt.2 hp), State.queue?_eq_none o hq.ge]

theorem exec_query_refused (h : s.takes p .query o) (hx : queryCheck s p o = .error x) :
    exec (.query p) s = .next (s.answered p x noResults) := by
  have hx' : queryCheck (s.startCommand p .query o) p o = .error x := hx
  refine exec_command_answered (c := .query) (by decide) h ?_
  show queryBody p o _ = _
  rw [queryBody, hx']

/-- What QUERY reads is the same before and after its grant. -/
theorem exec_query_ok (h : s.takes p .query o) (hx : queryCheck s p o = .ok rs) :
    exec (.query p) s = .next (s.answered p .ok rs) := by
  have hx' : queryCheck (s.startCommand p .query o) p o = .ok rs := hx
  refine exec_command_answered (c := .query) (by decide) h ?_
  show queryBody p o _ = _
  rw [queryBody, hx']

end Query

theorem State.freeSlots_eq (s : State) (p : Port) :
    s.freeSlots p = ((List.finRange 32).filter (fun i => (s.slot p i).holding.isEmpty)).length := by
  rw [freeSlots, slots_eq_map, List.countP_map, List.countP_eq_length_filter]
  rfl

theorem queryPort_of_attached {s : State} {p : Port} (hs : (s.port p).state = .attached) :
    queryPort s p =
      #v[1, field 0 13 (s.port p).quota,
        field 0 10 (s.heldCells p) |||
          field 16 6 ((List.finRange 32).filter (fun i => (s.slot p i).holding.isEmpty)).length,
        0] := by
  have code : field 0 2 (s.port p).state.code = 1 := by
    rw [hs]
    rfl
  simp only [queryPort, code, s.freeSlots_eq]

/-- Settles O34: each answer is a read that `queryCheck` lets pass, laid out in words. -/
theorem queryReportsAndChangesNothing : Obligations.QueryReportsAndChangesNothing := by
  intro s p o h
  obtain ⟨hd, -⟩ := id h
  refine ⟨fun hbad => exec_query_refused h (queryCheck_badOperand hbad), fun q hq hp => ?_, fun q hq hp => ?_,
    fun t hq hp ht => ?_, fun hq hp hs => ?_⟩
  · rw [exec_query_ok h (queryCheck_queue hq (by omega)), if_pos hp]
    rfl
  · rw [exec_query_ok h (queryCheck_queue hq (by omega)), if_neg (by omega)]
    rfl
  · rw [exec_query_ok h (queryCheck_device hq (by omega)), if_pos hp, queryDevice, hd, ht]
    cases t <;> rfl
  · rw [exec_query_ok h (queryCheck_device hq (by omega)), if_neg (by omega), queryPort_of_attached hs]

/-! ## PURGE QUEUE -/

section PurgeQueue

variable {s : State} {p : Port} {o : Operands} {q : QueueNo} {x : OutcomeCode}

theorem exec_purgeQueue_refused (h : s.takes p .purgeQueue o) (hx : liveQueueCheck s p o = .error x) :
    exec (.purgeQueue p) s = .next (s.answered p x noResults) := by
  have hx' : liveQueueCheck (s.startCommand p .purgeQueue o) p o = .error x := hx
  refine exec_command_answered (c := .purgeQueue) (by decide) h ?_
  show purgeQueueBody p o _ = _
  rw [purgeQueueBody, hx']

theorem exec_purgeQueue_ok (h : s.takes p .purgeQueue o) (hx : liveQueueCheck s p o = .ok q) :
    exec (.purgeQueue p) s =
      .next (purgeQueueEffect q (s.answered p .ok #v[field 0 12 (s.queue q).list.length, 0, 0, 0])) := by
  have hx' : liveQueueCheck (s.startCommand p .purgeQueue o) p o = .ok q := hx
  refine exec_command_effect (c := .purgeQueue) (purgeQueueEffect q (s.startCommand p .purgeQueue o)) (by decide) h ?_ rfl
  show purgeQueueBody p o _ = _
  rw [purgeQueueBody, hx']
  rfl

end PurgeQueue

/-- Settles O38: the refusals are those of `liveQueueCheck`, and a command that passes makes the queue PURGING and
appends its job. -/
theorem purgeQueueAppendsTheWalk : Obligations.PurgeQueueAppendsTheWalk := by
  intro s p o h
  refine ⟨fun ha => exec_purgeQueue_refused h (liveQueueCheck_noRight ha), fun ha =>
    ⟨fun hq => exec_purgeQueue_refused h (liveQueueCheck_badQueue ha hq), fun q hq =>
      ⟨fun hs => exec_purgeQueue_refused h (liveQueueCheck_noQueue ha hq hs),
        fun hs => exec_purgeQueue_refused h (liveQueueCheck_queueBusy ha hq hs), fun hs => ?_⟩⟩⟩
  rw [exec_purgeQueue_ok h (liveQueueCheck_ok ha hq hs)]
  rfl

/-! ## DELETE QUEUE -/

/-- A slot whose holding is orphaned if its source is `q` (R29, R156). -/
theorem Slot.orphaned_eq (q : QueueNo) (x : Slot) :
    ({ x with holding := x.holding.orphaned q } : Slot) =
      match x.holding with
      | .empty => x
      | .fresh _ _ => x
      | .taken m c f =>
        if f.source = some q then { gen := x.gen, holding := .taken m c { f with source := none, deadline := none } }
        else x := by
  obtain ⟨gen, holding⟩ := x
  cases holding with
  | empty => rfl
  | fresh m c => rfl
  | taken m c f =>
    simp only [Holding.orphaned]
    split <;> rfl

section DeleteQueue

variable {s : State} {p : Port} {o : Operands} {q : QueueNo} {x : OutcomeCode}

theorem exec_deleteQueue_refused (h : s.takes p .deleteQueue o) (hx : liveQueueCheck s p o = .error x) :
    exec (.deleteQueue p) s = .next (s.answered p x noResults) := by
  have hx' : liveQueueCheck (s.startCommand p .deleteQueue o) p o = .error x := hx
  refine exec_command_answered (c := .deleteQueue) (by decide) h ?_
  show deleteQueueBody p o _ = _
  rw [deleteQueueBody, hx']

theorem exec_deleteQueue_ok (h : s.takes p .deleteQueue o) (hx : liveQueueCheck s p o = .ok q) :
    exec (.deleteQueue p) s =
      .next ((deleteQueueEffect q (s.startCommand p .deleteQueue o)).complete p .ok
        #v[field 0 8 (s.takenFrom q), field 0 12 (s.queue q).list.length, 0, 0]) := by
  have hx' : liveQueueCheck (s.startCommand p .deleteQueue o) p o = .ok q := hx
  refine (exec_command_taken (c := .deleteQueue) (by decide) h).trans (congrArg _ ?_)
  show deleteQueueBody p o _ = _
  rw [deleteQueueBody, hx']
  rfl

theorem deleteQueueEffect_noticeUnit (s : State) (q : QueueNo) (r : Port) :
    (deleteQueueEffect q s).noticeUnit r = (s.withdrawFrom (s.queue q).settings.target q).noticeUnit r := by
  rw [State.withdrawFrom_noticeUnit]
  exact State.withdrawFrom_noticeUnit _ _ q r

theorem deleteQueueEffect_jobs (s : State) (q : QueueNo) : (deleteQueueEffect q s).jobs = s.jobs ++ [.delete q] := by
  rw [deleteQueueEffect]
  exact congrArg (· ++ [Job.delete q]) (State.withdrawFrom_jobs _ _ q)

theorem deleteQueueEffect_heldCells (s : State) (q : QueueNo) (r : Port) :
    (deleteQueueEffect q s).heldCells r = s.heldCells r :=
  State.heldCells_of_cellCount fun j => by
    rw [State.deleteQueueEffect_slot]
    exact Holding.orphaned_cellCount q _

end DeleteQueue

/-- Settles O39: the refusals are those of `liveQueueCheck`; the state of a command that passes is read field by field from
`deleteQueueEffect`. -/
theorem deleteQueueOrphansItsHoldings : Obligations.DeleteQueueOrphansItsHoldings := by
  intro s p o h
  refine ⟨fun ha => exec_deleteQueue_refused h (liveQueueCheck_noRight ha), fun ha =>
    ⟨fun hq => exec_deleteQueue_refused h (liveQueueCheck_badQueue ha hq), fun q hq =>
      ⟨fun hs => exec_deleteQueue_refused h (liveQueueCheck_noQueue ha hq hs),
        fun hs => exec_deleteQueue_refused h (liveQueueCheck_queueBusy ha hq hs), fun hs =>
          ⟨_, exec_deleteQueue_ok h (liveQueueCheck_ok ha hq hs), ?_, ?_, fun y hy => ?_, fun r i => ?_, ?_, ?_,
            fun r => ⟨?_, fun n => ?_⟩, fun r => ?_, ?_⟩⟩⟩⟩
  · have granted : (deleteQueueEffect q (s.startCommand p .deleteQueue o)).lastGranted = .port p := by
      rw [deleteQueueEffect_frame]
      rfl
    have interfaces : (deleteQueueEffect q (s.startCommand p .deleteQueue o)).interfaces =
        (s.startCommand p .deleteQueue o).interfaces := by rw [deleteQueueEffect_frame]
    exact s.completes_of_effect _ p .deleteQueue o _ _ h.2 granted interfaces
  · rw [State.complete_queue, State.deleteQueueEffect_queue, if_pos rfl]
    rfl
  · rw [State.complete_queue, State.deleteQueueEffect_queue, if_neg hy]
    rfl
  · rw [State.complete_slot, State.deleteQueueEffect_slot, Slot.orphaned_eq]
    rfl
  · rw [State.complete_timeouts, State.deleteQueueEffect_timeouts]
    rfl
  · rw [State.complete_jobs, deleteQueueEffect_jobs]
    rfl
  · rw [State.complete_noticeUnit, deleteQueueEffect_noticeUnit, State.withdrawFrom_active]
    rfl
  · rw [State.complete_noticeUnit, deleteQueueEffect_noticeUnit, State.mem_withdrawFrom]
    rfl
  · have completed : ((deleteQueueEffect q (s.startCommand p .deleteQueue o)).complete p .ok
        #v[field 0 8 (s.takenFrom q), field 0 12 (s.queue q).list.length, 0, 0]).heldCells r = _ :=
      State.heldCells_congr (State.complete_holdings ..) r
    rw [completed, deleteQueueEffect_heldCells]
    rfl
  · have effect := deleteQueueEffect_frame q (s.startCommand p .deleteQueue o)
    have completed := (deleteQueueEffect q (s.startCommand p .deleteQueue o)).complete_frame p .ok
      #v[field 0 8 (s.takenFrom q), field 0 12 (s.queue q).list.length, 0, 0]
    generalize (deleteQueueEffect q (s.startCommand p .deleteQueue o)).complete p .ok _ = t at completed ⊢
    generalize deleteQueueEffect q (s.startCommand p .deleteQueue o) = e at effect completed
    rw [completed, effect]
    rfl

/-! ## The walk of a queue (R145) -/

section Walk

variable {s₀ s : State} {u : Upset} {q : QueueNo} {js : List Job} {delete : Bool}

/-- At the reclaim unit's grant, a walk job at the head of the list makes one step. -/
theorem exec_queueWalkStep (hu : s₀.upset u = s) (hg : s.granted = some .reclaimUnit)
    (hj : s.jobs = (if delete then .delete q else .purge q) :: js) :
    exec (.queueWalkStep u) s₀ = .next ((s.grantTo .reclaimUnit).queueStep q delete) := by
  have stepped : exec (.queueWalkStep u) s₀ = execQueueWalkStep u s₀ := rfl
  rw [stepped, execQueueWalkStep, hu, if_pos hg, hj]
  cases delete <;> rfl

theorem queueStep_of_nil (h : (s.queue q).list = []) : s.queueStep q delete = s.endWalk q delete := by
  simp [State.queueStep, Queue.head?, h]

theorem queueStep_of_cons {m : CellNo} {rest : List CellNo} (h : (s.queue q).list = m :: rest)
    (hr : s.readsClear (s.freeReads m)) : s.queueStep q delete = (s.walkHead q m).endIfEmpty q delete := by
  have head : (s.queue q).head? = some m := by rw [Queue.head?, h, List.head?_cons]
  simp only [State.queueStep, head, s.requestReads_clear _ _ _ ((s.mismatch_eq_none _).2 hr)]

/-- The head message of a walked queue is freed, whatever the change of its count raises. -/
theorem State.walkHead_freed (s : State) (q : QueueNo) (m : CellNo) : s.freed (s.walkHead q m) m := by
  have unlinked := (s.unlink q .head).freeMessage_freed m
  have frame := s.unlink_frame q .head
  generalize hv : s.unlink q .head = v at unlinked frame
  have hw : s.walkHead q m = (v.freeMessage m).raiseDiscarded q := by rw [State.walkHead, hv]
  rw [hw]
  refine State.freed_of_eq (s' := v) unlinked ?_ ?_ ?_ ?_ ?_ <;> rw [frame]

theorem State.endIfEmpty_eq (s : State) (q : QueueNo) (delete : Bool) :
    s.endIfEmpty q delete = if (s.queue q).list = [] then s.endWalk q delete else s := by
  unfold State.endIfEmpty
  simp only [List.isEmpty_iff]

end Walk

namespace State

variable (s : State) (q : QueueNo) (delete : Bool)

theorem endIfEmpty_jobs : (s.endIfEmpty q delete).jobs = if (s.queue q).list = [] then s.jobs.tail else s.jobs := by
  rw [endIfEmpty_eq]
  split <;> rfl

theorem endIfEmpty_queue_same :
    (s.endIfEmpty q delete).queue q =
      if (s.queue q).list = [] then (s.queue q).afterWalk delete else s.queue q := by
  rw [endIfEmpty_eq]
  split
  · exact s.setQueue_queue_same q _
  · rfl

theorem endIfEmpty_queue_other (x : QueueNo) (h : x ≠ q) : (s.endIfEmpty q delete).queue x = s.queue x := by
  rw [endIfEmpty_eq]
  split
  · exact s.setQueue_queue_other q x _ h
  · rfl

theorem endIfEmpty_frame :
    s.endIfEmpty q delete =
      { s with jobs := (s.endIfEmpty q delete).jobs, queues := (s.endIfEmpty q delete).queues } := by
  rw [endIfEmpty_eq]
  split <;> rfl

end State

/-- Settles O60: a step on an empty list ends the walk; on any other it frees the head message, and ends the walk if that
was the last. -/
theorem queueWalkStepFreesTheHeadMessage : Obligations.QueueWalkStepFreesTheHeadMessage := by
  intro s₀ s u q js delete hu hg hj hstate
  have stepped := exec_queueWalkStep hu hg hj
  have tail : s.jobs.tail = js := by rw [hj, List.tail_cons]
  refine ⟨fun hl => ?_, fun m rest hl hr => ?_⟩
  · rw [stepped, queueStep_of_nil (s := s.grantTo .reclaimUnit) hl, ← tail]
    cases delete <;> rfl
  · rw [queueStep_of_cons (s := s.grantTo .reclaimUnit) hl hr] at stepped
    have freed := (s.grantTo .reclaimUnit).walkHead_freed q m
    have frame := (s.grantTo .reclaimUnit).walkHead_frame q m
    have queue := fun x => (s.grantTo .reclaimUnit).walkHead_queue q x m
    have unit := (s.grantTo .reclaimUnit).walkHead_noticeUnit q m
    generalize (s.grantTo .reclaimUnit).walkHead q m = v at stepped freed frame queue unit
    have listed : ((s.grantTo .reclaimUnit).queue q).list.tail = rest := congrArg List.tail hl
    rw [listed] at queue unit
    have walked : v.queue q =
        { s.queue q with
          list := rest
          discarded := (s.queue q).discarded + 1
          lowArmed := s.armedTo q rest.length } := (queue q).trans (if_pos rfl)
    have vlist : (v.queue q).list = rest := by rw [walked]
    have ended := v.endIfEmpty_frame q delete
    have jobs := v.endIfEmpty_jobs q delete
    have same := v.endIfEmpty_queue_same q delete
    have other := v.endIfEmpty_queue_other q delete
    generalize v.endIfEmpty q delete = t at stepped ended jobs same other
    have vjobs : v.jobs = s.jobs := by rw [frame]; rfl
    refine ⟨t, stepped, ?_, ?_, ?_, ?_, fun x hx => ?_, fun r => ?_, ?_⟩
    · rw [ended, frame]
      rfl
    · have vfreed : s.freed v m := freed
      rw [ended]
      exact vfreed
    · rw [jobs, vlist, vjobs, tail]
    · rw [same, vlist, walked]
      cases delete
      · by_cases hrest : rest = []
        · simp [hrest, Queue.afterWalk]
        · simp [hrest]
      · by_cases hrest : rest = []
        · simp [hrest, Queue.afterWalk]
        · simp [hrest]
    · rw [other x hx]
      exact (queue x).trans (if_neg hx)
    · have kept : t.noticeUnit r = v.noticeUnit r := by rw [ended]; rfl
      rw [kept, unit]
      rfl
    · rw [ended, frame]
      rfl

end Sys2Proof.Machine
end

section
/-! Proofs/Completions.lean: a granted command whose effect leaves the interfaces alone, as one state; then ALLOCATE and
PUT past their checks. -/

namespace Sys2Proof.Machine

/-! ## An effect and its completion as one state -/

namespace State

/-- The state `v` of an effect with port `p`'s command of state `s` completed (R65). -/
def completed (s v : State) (p : Port) (x : OutcomeCode) (rs : Results) : State :=
  { v with interfaces := s.interfaces.set p ((s.interface p).afterCompletion x rs) }

variable {s v : State} {p : Port} {c : CommandCode} {o : Operands} {x : OutcomeCode} {rs : Results}

theorem takeCommand_effect {body : Operands → State → State} (hc : c ≠ .format) (h : s.takes p c o)
    (hb : body o (s.startCommand p c o) = v.complete p x rs)
    (hi : v.interfaces = (s.startCommand p c o).interfaces) :
    s.takeCommand p c body = s.completed v p x rs := by
  rw [s.takeCommand_of_takes p c o body hc h, hb]
  obtain ⟨-, -, hslot⟩ := h
  exact s.complete_of_effect v p c o x rs hslot hi

theorem completed_completes (hg : v.lastGranted = .port p) : s.completes (s.completed v p x rs) p x rs := by
  refine ⟨hg, ?_, fun r hr => ?_⟩
  · simp [completed, interface]
  · have hne : p.val ≠ r.val := fun e => hr (Fin.ext e.symm)
    simp [completed, interface, hne]

end State

/-! ## ALLOCATE (R79) -/

theorem allocateCheck_ok {s : State} {p : Port} {n : Nat} {i : SlotNo} {m : CellNo} (h1 : 1 ≤ n) (h16 : n ≤ 16)
    (hs : s.lowestEmpty p i) (hq : s.heldCells p + n ≤ (s.port p).quota) (hf : n ≤ s.freeList.length)
    (hm : s.freeList.head? = some m) : allocateCheck s p n = .ok (i, m) := by
  have hn : ¬(n < 1 ∨ 16 < n) := by omega
  have hf' : ¬ s.freeCount < n := Nat.not_lt.2 hf
  simp only [allocateCheck, if_neg hn, (s.freeSlot_eq_some p i).2 hs, if_neg (Nat.not_lt.2 hq), if_neg hf', hm]

/-- A handle as a result word: slot + 32 × generation (R28, R172). -/
theorem State.handleOf_word (s : State) (p : Port) (i : SlotNo) :
    field 0 8 (s.handleOf p i).toNat = BitVec.ofNat 32 (i.val + 32 * (s.slot p i).gen.toNat) := by
  have hi := i.isLt
  have hg := (s.slot p i).gen.isLt
  have fits : i.val + 32 * (s.slot p i).gen.toNat < 2 ^ 8 := by omega
  rw [handleOf, Handle.of, BitVec.toNat_ofNat, Nat.mod_eq_of_lt fits, field, Nat.mod_eq_of_lt fits, Nat.pow_zero, Nat.mul_one]

theorem State.writeEntry_parityErrors (s : State) (e : ControlEntry) :
    (s.writeEntry e).parityErrors = s.parityWithout [e] := by
  refine List.filter_congr fun k _ => ?_
  simp

section AllocateEffect

variable (p : Port) (n : Nat) (i : SlotNo) (m : CellNo) (s : State)

theorem allocateEffect_message (k : CellNo) :
    (allocateEffect p n i m s).message k =
      if m = k then some
        { cells := s.freeList.take n, length := 0, tag := 0, origin := p, redelivery := 0, damaged := false,
          spilled := false }
      else s.message k :=
  MessageTable.get?_put s.messages m k _

theorem allocateEffect_holdings :
    (allocateEffect p n i m s).holdings = (s.setSlot p i { s.slot p i with holding := .fresh m n }).holdings := (rfl)

theorem allocateEffect_parityErrors : (allocateEffect p n i m s).parityErrors = s.parityWithout [.record m] :=
  State.writeEntry_parityErrors s (.record m)

end AllocateEffect

theorem exec_allocate_ok {s₀ s : State} {u : Upset} {p : Port} {o : Operands} {i : SlotNo} {m : CellNo}
    (hu : s₀.upset u = s) (h : s.takes p .allocate o) (hx : allocateCheck s p o.cellCount = .ok (i, m))
    (hr : s.readsClear (s.takeCellsReads o.cellCount)) :
    exec (.allocate p u) s₀ =
      .next (s.completed (allocateEffect p o.cellCount i m (s.startCommand p .allocate o)) p .ok
        #v[BitVec.ofNat 32 (i.val + 32 * (s.slot p i).gen.toNat), 0, 0, 0]) := by
  have hx' : allocateCheck (s.startCommand p .allocate o) p o.cellCount = .ok (i, m) := hx
  have clear : (s.startCommand p .allocate o).mismatch ((s.startCommand p .allocate o).takeCellsReads o.cellCount) = none :=
    (s.mismatch_eq_none _).2 hr
  have body : allocateBody p o (s.startCommand p .allocate o) =
      (allocateEffect p o.cellCount i m (s.startCommand p .allocate o)).complete p .ok
        #v[BitVec.ofNat 32 (i.val + 32 * (s.slot p i).gen.toNat), 0, 0, 0] := by
    simp only [allocateBody, hx', State.commandReads_clear _ _ _ _ clear, State.handleOf_word, State.startCommand_slot]
  rw [exec_allocate, hu, State.takeCommand_effect (by decide) h body rfl]

/-- Settles O24: the checks pass, the links of the cells taken are clear, and the state is `allocateEffect`'s. -/
theorem allocateCreatesAFreshHolding : Obligations.AllocateCreatesAFreshHolding := by
  intro s₀ s u p o i m cells rest hu h h1 h16 hs hq hfree hlen hm hr
  have taken : s.freeList.take o.cellCount = cells := by rw [hfree, ← hlen, List.take_left]
  have kept : s.freeList.drop o.cellCount = rest := by rw [hfree, ← hlen, List.drop_left]
  have head : s.freeList.head? = some m := by
    rw [hfree, List.head?_append, hm]
    rfl
  have enough : o.cellCount ≤ s.freeList.length := by
    rw [hfree, List.length_append]
    omega
  have reads : s.readsClear (s.takeCellsReads o.cellCount) := by rwa [State.takeCellsReads, taken]
  have executed := exec_allocate_ok hu h (allocateCheck_ok h1 h16 hs hq enough head) reads
  have message := allocateEffect_message p o.cellCount i m (s.startCommand p .allocate o)
  have holdings := allocateEffect_holdings p o.cellCount i m (s.startCommand p .allocate o)
  have parity := allocateEffect_parityErrors p o.cellCount i m (s.startCommand p .allocate o)
  have frame := allocateEffect_frame p o.cellCount i m (s.startCommand p .allocate o)
  have freeList : (allocateEffect p o.cellCount i m (s.startCommand p .allocate o)).freeList = rest := kept
  generalize allocateEffect p o.cellCount i m (s.startCommand p .allocate o) = v at executed message holdings parity frame freeList
  have written : v.holdings = (s.setSlot p i { s.slot p i with holding := .fresh m o.cellCount }).holdings := holdings
  refine ⟨_, executed, State.completed_completes ?_, freeList, ?_, fun k hk => ?_, State.slot_of_holdings written,
    State.otherSlotsKept_of_holdings written, ?_, parity, ?_⟩
  · rw [frame]
    rfl
  · refine (message m).trans ?_
    rw [if_pos rfl, State.startCommand_freeList, taken]
  · exact (message k).trans (if_neg (Ne.symm hk))
  · have held := State.heldCells_of_holdings written
    obtain ⟨hempty, -⟩ := hs
    rw [hempty] at held
    exact held
  · rw [frame]
    rfl

/-! ## PUT (R81, R82) -/

section PutEffect

variable (p : Port) (i : SlotNo) (q : QueueNo) (o : Operands) (m k : CellNo) (f : TakenFields) (s : State)

theorem putFresh_message :
    (putFresh p i q o m s).message k =
      if m = k then (s.message k).map (fun r => { r with length := o.length, tag := o.tag }) else s.message k := by
  rw [putFresh, State.emptySlot_message, State.link_message, State.updateMessage_message]

theorem putTaken_message :
    (putTaken p i q o m f s).message k =
      if m = k then (s.message k).map (fun r => { r with redelivery := 0, spilled := false }) else s.message k := by
  rw [putTaken, State.emptySlot_message, State.link_message, State.updateMessage_message, State.removeTimeout_message,
    State.lowerSource_message]

end PutEffect

theorem putCheck_ok {s : State} {p : Port} {o : Operands} {i : SlotNo} {q : QueueNo} (hi : s.names p o.handle i)
    (hq : q.val = o.queueField) (hs : (s.queue q).state = .active)
    (hput : (s.queue q).settings.putSet.getLsbD p.val = true)
    (hl : (s.slot p i).holding.acceptsLength o.length = true)
    (hroom : (s.queue q).occupancy < (s.queue q).settings.limit) : putCheck s p o = .ok (i, q) := by
  rw [putCheck_active hi hq hs, if_neg (by simp [hput]), if_neg (by simp [hl]), if_neg (Nat.not_le.2 hroom)]

/-- A PUT past its checks and reads makes its effect and is answered OK. -/
theorem exec_put_ok {s₀ s v : State} {u : Upset} {p : Port} {o : Operands} {i : SlotNo} {q : QueueNo}
    (hu : s₀.upset u = s) (h : s.takes p .put o) (hx : putCheck s p o = .ok (i, q))
    (hr : s.readsClear (putReads s p i q o.listEnd)) (hv : putEffect p i q o (s.startCommand p .put o) = v)
    (hi : v.interfaces = (s.startCommand p .put o).interfaces) :
    exec (.put p u) s₀ = .next (s.completed v p .ok noResults) := by
  have hx' : putCheck (s.startCommand p .put o) p o = .ok (i, q) := hx
  have clear : (s.startCommand p .put o).mismatch (putReads (s.startCommand p .put o) p i q o.listEnd) = none :=
    (s.mismatch_eq_none _).2 hr
  rw [exec_put, hu, State.takeCommand_effect (by decide) h ?_ hi]
  simp only [putBody, hx', State.commandReads_clear _ _ _ _ clear, hv]

/-- Settles O26: the checks pass and the reads are clear; the state is `putFresh`'s. -/
theorem putPublishesAFreshMessage : Obligations.PutPublishesAFreshMessage := by
  intro s₀ s u p o i q m c r hu h hi hq hs hput hh h1 hlen hroom hm hr
  have suits : (s.slot p i).holding.acceptsLength o.length = true :=
    (Holding.acceptsLength_eq_true _ _).2 (.inl ⟨m, c, hh, h1, hlen⟩)
  have effect : putEffect p i q o (s.startCommand p .put o) = putFresh p i q o m (s.startCommand p .put o) := by
    have hh' : ((s.startCommand p .put o).slot p i).holding = .fresh m c := hh
    simp only [putEffect, hh']
  have frame := putFresh_frame p i q o m (s.startCommand p .put o)
  have holdings := putFresh_holdings (s.startCommand p .put o) p i q o m
  have queue := fun x => putFresh_queue (s.startCommand p .put o) p i q x o m
  have unit := putFresh_noticeUnit (s.startCommand p .put o) p i q o m
  have message := fun k => putFresh_message p i q o m k (s.startCommand p .put o)
  generalize putFresh p i q o m (s.startCommand p .put o) = v at effect frame holdings queue unit message
  have executed := exec_put_ok hu h (putCheck_ok hi hq hs hput suits hroom) hr effect (by rw [frame])
  have emptied : v.holdings = (s.emptySlot p i).holdings := holdings
  refine ⟨_, executed, State.completed_completes ?_, (queue q).trans (if_pos rfl), fun x hx => (queue x).trans (if_neg hx),
    ?_, fun k hk => (message k).trans (if_neg (Ne.symm hk)), State.slotEmptied_of_holdings emptied, ?_, unit, ?_⟩
  · rw [frame]
    rfl
  · refine (message m).trans ?_
    rw [if_pos rfl, State.startCommand_message, hm]
    rfl
  · have held := State.heldCells_of_emptied emptied
    rw [hh] at held
    exact held
  · rw [frame]
    rfl

/-- Settles O27: the checks pass and the reads are clear; the state is `putTaken`'s, the source's count lowered before
the message is linked. -/
theorem putForwardsATakenMessage : Obligations.PutForwardsATakenMessage := by
  intro s₀ s u p o i q m c f r hu h hi hq hs hput hh hlen hroom hm hr
  have suits : (s.slot p i).holding.acceptsLength o.length = true :=
    (Holding.acceptsLength_eq_true _ _).2 (.inr ⟨m, c, f, hh, hlen⟩)
  have effect : putEffect p i q o (s.startCommand p .put o) = putTaken p i q o m f (s.startCommand p .put o) := by
    have hh' : ((s.startCommand p .put o).slot p i).holding = .taken m c f := hh
    simp only [putEffect, hh']
  have frame := putTaken_frame p i q o m f (s.startCommand p .put o)
  have holdings := putTaken_holdings (s.startCommand p .put o) p i q o m f
  have timeouts := putTaken_timeouts (s.startCommand p .put o) p i q o m f
  have queue := fun x => putTaken_queue (s.startCommand p .put o) p i q x o m f
  have unit := putTaken_noticeUnit (s.startCommand p .put o) p i q o m f
  have message := fun k => putTaken_message p i q o m k f (s.startCommand p .put o)
  generalize putTaken p i q o m f (s.startCommand p .put o) = v at effect frame holdings timeouts queue unit message
  have executed := exec_put_ok hu h (putCheck_ok hi hq hs hput suits hroom) hr effect (by rw [frame])
  have emptied : v.holdings = (s.emptySlot p i).holdings := holdings
  refine ⟨_, executed, State.completed_completes ?_, (queue q).trans (if_pos rfl), fun x hx => (queue x).trans (if_neg hx),
    ?_, fun k hk => (message k).trans (if_neg (Ne.symm hk)), State.slotEmptied_of_holdings emptied, ?_, timeouts, unit, ?_⟩
  · rw [frame]
    rfl
  · refine (message m).trans ?_
    rw [if_pos rfl, State.startCommand_message, hm]
    rfl
  · have held := State.heldCells_of_emptied emptied
    rw [hh] at held
    exact held
  · rw [frame]
    rfl

end Sys2Proof.Machine
end

section
/-! Proofs/HoldingsEnded.lean: TAKE, and the commands that end a holding: RELEASE and RETURN. -/

namespace Sys2Proof.Machine

/-! ## What a free and a return leave, read from two states -/

namespace State

variable {s t t' : State} {q : QueueNo} {m : CellNo} {r : Message} {d : Disposition}

/-- A free is judged by the pool, the records and the parity alone. -/
theorem freed_congr (h : s.freed t m) (hf : t'.freeList = t.freeList) (hr : t'.retired = t.retired)
    (hm : t'.messages = t.messages) (hp : t'.parityErrors = t.parityErrors) : s.freed t' m := by
  simpa only [freed, message, hf, hr, hm, hp] using h

/-- A return is judged by the queues, the pool, the records and the parity alone. -/
theorem returned_congr (h : s.returned t q m r d) (hq : t'.queues = t.queues) (hf : t'.freeList = t.freeList)
    (hr : t'.retired = t.retired) (hm : t'.messages = t.messages) (hp : t'.parityErrors = t.parityErrors) :
    s.returned t' q m r d := by
  cases d <;> simpa only [returned, freed, queue, message, hq, hf, hr, hm, hp] using h

theorem dropHolding_freed (s : State) (p : Port) (i : SlotNo) (m : CellNo) : s.freed (s.dropHolding p i m) m :=
  freed_of_eq ((s.emptySlot p i).freeMessage_freed m) rfl rfl rfl rfl rfl

/-- The end of a holding returns its message: the slot and the timeout entry play no part in the return. -/
theorem endHolding_returned (s : State) (p : Port) (i : SlotNo) (hm : s.message m = some r)
    (hq : (s.queue q).settings.spill ≠ some q) (hd : s.tableDisposition q r d) :
    s.returned (s.endHolding p i m q) q m r d ∧
      ∀ x, (s.endHolding p i m q).noticeUnit x = s.afterReturn q d x := by
  have disposed : ((s.removeTimeout p i).emptySlot p i).tableDisposition q r d := by
    cases d <;> exact hd
  obtain ⟨returned, units⟩ := ((s.removeTimeout p i).emptySlot p i).returnPath_returned q m r d hm hq disposed
  unfold endHolding
  generalize ((s.removeTimeout p i).emptySlot p i).returnPath q m = t at returned units
  constructor
  · cases d <;> exact returned
  · cases d <;> exact units

end State

/-! ## TAKE (R85) -/

theorem State.endMessage_of_list {s : State} {q : QueueNo} {e : ListEnd} {m : CellNo} {rest : List CellNo}
    (h : (s.queue q).list = if e = .head then m :: rest else rest ++ [m]) :
    s.endMessage q e = some m ∧ s.unlinked q e = rest := by
  cases e with
  | head =>
    have list : (s.queue q).list = m :: rest := h
    exact ⟨by rw [State.endMessage, Queue.head?, list, List.head?_cons], by rw [State.unlinked, list, List.tail_cons]⟩
  | tail =>
    have list : (s.queue q).list = rest ++ [m] := h
    exact ⟨by rw [State.endMessage, Queue.tail?, list, List.getLast?_concat],
      by rw [State.unlinked, list, List.dropLast_concat]⟩

theorem takenFields_deadline (s : State) (p : Port) (q : QueueNo) :
    (takenFields s p q).deadline =
      if (s.queue q).settings.holdTime = 0 then none
      else some (s.tick + BitVec.ofNat 32 (s.queue q).settings.holdTime.toNat) := by
  rw [takenFields, BitVec.ofNat_toNat]

theorem takeResults_eq {s : State} {p : Port} {i : SlotNo} {m : CellNo} {r : Message} (h : s.message m = some r) :
    takeResults s p i m =
      #v[field 0 8 (s.handleOf p i).toNat ||| field 8 4 r.redelivery ||| field 16 5 r.cells.length |||
          flagBit 24 r.damaged ||| flagBit 25 r.spilled,
        field 0 11 r.length ||| field 16 2 r.origin.val, field 0 16 r.tag.toNat, 0] := by
  simp only [takeResults, h]

/-- A handle is one byte, so its field holds the number itself. -/
theorem State.handleOf_field (s : State) (p : Port) (i : SlotNo) :
    field 0 8 (s.handleOf p i).toNat = field 0 8 (i.val + 32 * (s.slot p i).gen.toNat) := by
  rw [handleOf, Handle.of, BitVec.toNat_ofNat, field, field, Nat.mod_mod]

theorem exec_take_ok {s₀ s : State} {u : Upset} {p : Port} {o : Operands} {q : QueueNo} {i : SlotNo} {m : CellNo}
    (hu : s₀.upset u = s) (h : s.takes p .take o) (hx : takeCheck s p o = .ok (q, i, m))
    (hr : s.readsClear (.record m :: s.unlinkReads q o.listEnd))
    (hq : s.heldCells p + (s.messageCells m).length ≤ (s.port p).quota) :
    exec (.take p u) s₀ =
      .next (s.completed (takeEffect p q i m o.listEnd (s.startCommand p .take o)) p .ok (takeResults s p i m)) := by
  obtain ⟨record, unlink⟩ := List.forall_mem_cons.1 hr
  have hx' : takeCheck (s.startCommand p .take o) p o = .ok (q, i, m) := hx
  have clear : (s.startCommand p .take o).mismatch [.record m] = none :=
    (s.mismatch_eq_none _).2 fun e he => by rwa [List.mem_singleton.1 he]
  have clear' : (s.startCommand p .take o).mismatch ((s.startCommand p .take o).unlinkReads q o.listEnd) = none :=
    (s.mismatch_eq_none _).2 unlink
  have fits : ¬ ((s.startCommand p .take o).port p).quota <
      (s.startCommand p .take o).heldCells p + ((s.startCommand p .take o).messageCells m).length := Nat.not_lt.2 hq
  have body : takeBody p o (s.startCommand p .take o) =
      (takeEffect p q i m o.listEnd (s.startCommand p .take o)).complete p .ok (takeResults s p i m) := by
    simp only [takeBody, hx', State.commandReads_clear _ _ _ _ clear, if_neg fits,
      State.commandReads_clear _ _ _ _ clear']
    rfl
  rw [exec_take, hu, State.takeCommand_effect (by decide) h body (by rw [takeEffect_frame])]

/-- Settles O29: the checks pass and the reads are clear; the state is `takeEffect`'s. -/
theorem takeMovesTheEndMessageIntoATakenSlot : Obligations.TakeMovesTheEndMessageIntoATakenSlot := by
  intro s₀ s u p o q i m rest r hu h hq hs htake hc hlist hi hm hquota hr
  obtain ⟨last, unlinked⟩ := State.endMessage_of_list hlist
  have cells : s.messageCells m = r.cells := by simp only [State.messageCells, hm]
  have passed := takeCheck_ok (claimCheck_ok hq hs htake hc) last ((s.freeSlot_eq_some p i).2 hi)
  have executed := exec_take_ok hu h passed hr (by rwa [cells])
  rw [takeResults_eq hm, State.handleOf_field] at executed
  have frame := takeEffect_frame p q i m o.listEnd (s.startCommand p .take o)
  have holdings := takeEffect_holdings (s.startCommand p .take o) p i q m o.listEnd
  have timeouts := takeEffect_timeouts (s.startCommand p .take o) p i q m o.listEnd
  have queue := fun x => takeEffect_queue (s.startCommand p .take o) p i q x m o.listEnd
  have unit := takeEffect_noticeUnit (s.startCommand p .take o) p i q m o.listEnd
  have port := fun x => takeEffect_port (s.startCommand p .take o) p x q i m o.listEnd
  generalize takeEffect p q i m o.listEnd (s.startCommand p .take o) = v
    at executed frame holdings timeouts queue unit port
  have started : (s.startCommand p .take o).unlinked q o.listEnd = rest := unlinked
  rw [started] at queue unit
  have written : v.holdings =
      (s.setSlot p i { s.slot p i with holding := .taken m r.cells.length (takenFields s p q) }).holdings := by
    rw [← cells]
    exact holdings
  refine ⟨_, (takenFields s p q).deadline, executed, State.completed_completes ?_, (queue q).trans (if_pos rfl),
    fun x hx => (queue x).trans (if_neg hx), State.slot_of_holdings written, State.otherSlotsKept_of_holdings written,
    ?_, fun x hx => ?_, ?_, fun h0 => ?_, fun h0 => ?_, unit, ?_⟩
  · rw [frame]
    rfl
  · exact (port p).trans (State.setPortEntry_port_same _ p _)
  · exact (port x).trans (State.setPortEntry_port_other _ p x _ hx)
  · have held := State.heldCells_of_holdings written
    rw [hi.1] at held
    exact held
  · have none : (takenFields (s.startCommand p .take o) p q).deadline = none :=
      (takenFields_deadline s p q).trans (if_pos h0)
    rw [none] at timeouts
    exact ⟨none, timeouts⟩
  · have some : (takenFields (s.startCommand p .take o) p q).deadline = some _ :=
      (takenFields_deadline s p q).trans (if_neg h0)
    rw [some] at timeouts
    refine ⟨some, ?_⟩
    show InsertedAtPlace _ _ _ v.timeouts
    rw [timeouts]
    exact insertEntry_insertedAtPlace _ _ _
  · rw [frame]
    rfl

/-! ## RELEASE (R88, R89) -/

section Release

variable {s₀ s : State} {u : Upset} {p : Port} {o : Operands} {i : SlotNo} {m : CellNo}

theorem exec_release : exec (.release p u) s₀ = .next ((s₀.upset u).takeCommand p .release (releaseBody p)) := (rfl)

theorem exec_release_stale (hu : s₀.upset u = s) (h : s.takes p .release o) (hi : ∀ i, ¬ s.names p o.handle i) :
    exec (.release p u) s₀ = .next (s.answered p .stale noResults) := by
  have invalid : (s.startCommand p .release o).validHandle p o.handle = none := (s.validHandle_eq_none p o.handle).2 hi
  have body : releaseBody p o (s.startCommand p .release o) = (s.startCommand p .release o).complete p .stale noResults := by
    simp only [releaseBody, invalid]
  rw [exec_release, hu, s.takeCommand_answered p .release o _ .stale _ (by decide) h body]

theorem exec_release_ok (hu : s₀.upset u = s) (h : s.takes p .release o) (hi : s.names p o.handle i)
    (hm : (s.slot p i).holding.message? = some m) (hr : s.readsClear (s.freeReads m)) :
    exec (.release p u) s₀ =
      .next (s.completed (releaseEffect p i m (s.slot p i).holding.source? (s.startCommand p .release o)) p .ok
        (releaseResults s m)) := by
  have valid : (s.startCommand p .release o).validHandle p o.handle = some i := (s.validHandle_eq_some p o.handle i).2 hi
  have held : ((s.startCommand p .release o).slot p i).holding.message? = some m := hm
  have clear : (s.startCommand p .release o).mismatch ((s.startCommand p .release o).freeReads m) = none :=
    (s.mismatch_eq_none _).2 hr
  have body : releaseBody p o (s.startCommand p .release o) =
      (releaseEffect p i m (s.slot p i).holding.source? (s.startCommand p .release o)).complete p .ok
        (releaseResults s m) := by
    simp only [releaseBody, valid, held, State.commandReads_clear _ _ _ _ clear]
    rfl
  rw [exec_release, hu, State.takeCommand_effect (by decide) h body (by rw [releaseEffect_frame])]

/-- The free of a RELEASE is that of the message, whatever the source and the timeout entry (R88, R89). -/
theorem releaseEffect_freed (s : State) (p : Port) (i : SlotNo) (m : CellNo) (source : Option QueueNo) :
    s.freed (releaseEffect p i m source s) m := by
  have dropped := ((s.lowerSource source).removeTimeout p i).dropHolding_freed p i m
  have frame := s.lowerSource_frame source
  unfold releaseEffect
  generalize s.lowerSource source = v at dropped frame
  refine State.freed_of_eq dropped ?_ ?_ ?_ ?_ ?_ <;> rw [frame] <;> rfl

end Release

/-- Settles O30: a handle that names nothing is refused; otherwise the state is `releaseEffect`'s. -/
theorem releaseFreesTheHeldMessage : Obligations.ReleaseFreesTheHeldMessage := by
  intro s₀ s u p o hu h
  refine ⟨exec_release_stale hu h, fun i m hi hm hr => ?_⟩
  have executed := exec_release_ok hu h hi hm hr
  rw [releaseResults, List.countP_eq_length_filter, List.countP_eq_length_filter] at executed
  have frame := releaseEffect_frame p i m (s.slot p i).holding.source? (s.startCommand p .release o)
  have holdings := releaseEffect_holdings (s.startCommand p .release o) p i m (s.slot p i).holding.source?
  have timeouts := releaseEffect_timeouts (s.startCommand p .release o) p i m (s.slot p i).holding.source?
  have queue := fun x => releaseEffect_queue (s.startCommand p .release o) p i x m (s.slot p i).holding.source?
  have freed := releaseEffect_freed (s.startCommand p .release o) p i m (s.slot p i).holding.source?
  generalize releaseEffect p i m (s.slot p i).holding.source? (s.startCommand p .release o) = v
    at executed frame holdings timeouts queue freed
  have emptied : v.holdings = (s.emptySlot p i).holdings := holdings
  refine ⟨_, executed, State.completed_completes ?_, freed, State.slotEmptied_of_holdings emptied,
    State.heldCells_of_emptied emptied, queue, timeouts, ?_⟩
  · rw [frame]
    rfl
  · rw [frame]
    rfl

/-! ## RETURN (R92, R93) -/

section Return

variable {s₀ s : State} {u : Upset} {p : Port} {o : Operands} {i : SlotNo} {m : CellNo} {c : Nat} {f : TakenFields}
  {q : QueueNo} {x : OutcomeCode}

theorem exec_giveBack : exec (.giveBack p u) s₀ = .next ((s₀.upset u).takeCommand p .giveBack (returnBody p)) := (rfl)

theorem exec_giveBack_refused (hu : s₀.upset u = s) (h : s.takes p .giveBack o)
    (hb : returnBody p o (s.startCommand p .giveBack o) = (s.startCommand p .giveBack o).complete p x noResults) :
    exec (.giveBack p u) s₀ = .next (s.answered p x noResults) := by
  rw [exec_giveBack, hu, s.takeCommand_answered p .giveBack o _ x _ (by decide) h hb]

theorem returnBody_stale (hi : ∀ i, ¬ s.names p o.handle i) : returnBody p o s = s.complete p .stale noResults := by
  simp only [returnBody, (s.validHandle_eq_none p o.handle).2 hi]

theorem returnBody_fresh (hi : s.names p o.handle i) (hh : (s.slot p i).holding = .fresh m c) :
    returnBody p o s = s.complete p .badOperand noResults := by
  simp only [returnBody, (s.validHandle_eq_some p o.handle i).2 hi, hh]

/-- An orphaned holding's message is freed (R92). -/
theorem returnBody_orphaned (hi : s.names p o.handle i) (hh : (s.slot p i).holding = .taken m c f)
    (hf : f.source = none) (hr : s.readsClear (s.freeReads m)) :
    returnBody p o s = (s.dropHolding p i m).complete p .orphaned noResults := by
  simp only [returnBody, (s.validHandle_eq_some p o.handle i).2 hi, hh, hf,
    s.commandReads_clear _ _ _ ((s.mismatch_eq_none _).2 hr)]

/-- A holding with a source is returned to it (R93). -/
theorem returnBody_returned (hi : s.names p o.handle i) (hh : (s.slot p i).holding = .taken m c f)
    (hf : f.source = some q) (hr : s.readsClear (s.returnReads q m)) :
    returnBody p o s =
      (s.endHolding p i m q).complete p .ok (returnResults q ((s.lowerOutstanding q).dispositionOf q m)) := by
  simp only [returnBody, (s.validHandle_eq_some p o.handle i).2 hi, hh, hf,
    s.commandReads_clear _ _ _ ((s.mismatch_eq_none _).2 hr)]

end Return

/-- Settles O32: the refusals complete the command alone, and an orphaned holding's message is dropped. -/
theorem returnChecksAndOrphanCase : Obligations.ReturnChecksAndOrphanCase := by
  intro s₀ s u p o hu h
  refine ⟨fun hi => exec_giveBack_refused hu h (returnBody_stale (s := s.startCommand p .giveBack o) hi), fun i hi =>
    ⟨fun m c hh => exec_giveBack_refused hu h (returnBody_fresh (s := s.startCommand p .giveBack o) hi hh),
      fun m c f hh hf hr => ?_⟩⟩
  have body := returnBody_orphaned (s := s.startCommand p .giveBack o) hi hh hf hr
  have frame := (s.startCommand p .giveBack o).dropHolding_frame p i m
  have holdings := (s.startCommand p .giveBack o).dropHolding_holdings p i m
  have freed := (s.startCommand p .giveBack o).dropHolding_freed p i m
  generalize (s.startCommand p .giveBack o).dropHolding p i m = v at body frame holdings freed
  have emptied : v.holdings = (s.emptySlot p i).holdings := holdings
  have executed : exec (.giveBack p u) s₀ = .next (s.completed v p .orphaned noResults) := by
    rw [exec_giveBack, hu, State.takeCommand_effect (by decide) h body (by rw [frame])]
  refine ⟨_, executed, State.completed_completes ?_, freed, State.slotEmptied_of_holdings emptied, ?_, ?_⟩
  · rw [frame]
    rfl
  · have held := State.heldCells_of_emptied emptied
    rw [hh] at held
    exact held
  · rw [frame]
    rfl

theorem field_queue (q : QueueNo) : field 0 6 q.val = BitVec.ofNat 32 q.val := by
  have fits : q.val < 2 ^ 6 := q.isLt
  rw [field, Nat.mod_eq_of_lt fits, Nat.pow_zero, Nat.mul_one]

theorem returnResults_requeued (q : QueueNo) :
    returnResults q .requeued = #v[1, BitVec.ofNat 32 q.val, 0, 0] := by
  rw [returnResults, field_queue]
  rfl

theorem returnResults_spilled (q x : QueueNo) :
    returnResults q (.spilled x) = #v[2, BitVec.ofNat 32 x.val, 0, 0] := by
  rw [returnResults, field_queue]
  rfl

/-- Settles O33: the holding is ended by the return path, whose disposition is the table's. -/
theorem returnGivesTheMessageBack : Obligations.ReturnGivesTheMessageBack := by
  intro s₀ s u p o i m c f q r d hu h hi hh hf hm hq hd hr
  have body := returnBody_returned (s := s.startCommand p .giveBack o) hi hh hf hr
  have disposed : ((s.startCommand p .giveBack o).lowerOutstanding q).dispositionOf q m = d :=
    s.dispositionOf_eq q m r d hm hq hd
  rw [disposed] at body
  have frame := (s.startCommand p .giveBack o).endHolding_frame p i m q
  have holdings := (s.startCommand p .giveBack o).endHolding_holdings p i m q
  have timeouts := (s.startCommand p .giveBack o).endHolding_timeouts p i m q
  have disposes : (s.startCommand p .giveBack o).tableDisposition q r d := by
    cases d <;> exact hd
  obtain ⟨returned, units⟩ := (s.startCommand p .giveBack o).endHolding_returned p i hm hq disposes
  generalize (s.startCommand p .giveBack o).endHolding p i m q = v at body frame holdings timeouts returned units
  have emptied : v.holdings = (s.emptySlot p i).holdings := holdings
  have executed : exec (.giveBack p u) s₀ = .next (s.completed v p .ok (returnResults q d)) := by
    rw [exec_giveBack, hu, State.takeCommand_effect (by decide) h body (by rw [frame])]
  have granted : v.lastGranted = .port p := by
    rw [frame]
    rfl
  have completes := State.completed_completes (s := s) (x := .ok) (rs := returnResults q d) granted
  refine ⟨_, executed, ?_, ?_, State.slotEmptied_of_holdings emptied, ?_, timeouts, ?_, ?_⟩
  · cases d with
    | requeued =>
      rw [returnResults_requeued] at completes ⊢
      exact completes
    | spilled x =>
      rw [returnResults_spilled] at completes ⊢
      exact completes
    | discarded => exact completes
  · cases d <;> exact returned
  · have held := State.heldCells_of_emptied emptied
    rw [hh] at held
    exact held
  · cases d <;> exact units
  · rw [frame]
    rfl

end Sys2Proof.Machine
end

section
/-! Proofs/ReturnsByRequest.lean: the holdings that the hold timer and the reclaim unit end: an expiry, and the step of a
PORT job with the slot it chooses. -/

namespace Sys2Proof.Machine

/-! ## An expiry (R108, R109) -/

namespace State

variable {s : State} {e : TimeoutEntry}

/-- The first due entry of the list is the one presented (R106). -/
theorem dueEntry_eq_some {before after : List TimeoutEntry} (h : s.timeouts = before ++ e :: after)
    (hb : ∀ x ∈ before, x.due = false) (he : e.due = true) : s.dueEntry = some e := by
  rw [dueEntry, h, List.find?_append, List.find?_eq_none.2 fun x hx => by simp [hb x hx], Option.none_or,
    List.find?_cons_of_pos he]

theorem raiseHoldLost_frame (s : State) (e : TimeoutEntry) :
    s.raiseHoldLost e = { s with notices := (s.raiseHoldLost e).notices } := s.raiseSystem_frame _ _ _ _

theorem raiseHoldLost_noticeUnit_other (s : State) (e : TimeoutEntry) (r : Port) (h : r ≠ e.port) :
    (s.raiseHoldLost e).noticeUnit r = s.noticeUnit r := s.raise_noticeUnit_other _ r _ h

theorem raiseHoldLost_noticeUnit_same (s : State) (e : TimeoutEntry) :
    (s.raiseHoldLost e).noticeUnit e.port =
      if (s.port e.port).state = .attached then
        (s.noticeUnit e.port).taking
          { kind := .holdLost, source := BitVec.ofNat 6 e.slot.val, level := (s.interface e.port).systemLevel,
            reasons := 1#3 }
      else s.noticeUnit e.port := s.raise_noticeUnit_same _ _

/-- An expiry whose reads are clear ends the holding and tells its port (R108, R109). -/
theorem expire_taken {m : CellNo} {c : Nat} {f : TakenFields} {q : QueueNo}
    (hh : (s.slot e.port e.slot).holding = .taken m c f) (hf : f.source = some q)
    (hr : s.readsClear (s.returnReads q m)) : s.expire e = (s.endHolding e.port e.slot m q).raiseHoldLost e := by
  simp only [expire, hh, hf, s.requestReads_clear _ _ _ ((s.mismatch_eq_none _).2 hr)]

theorem timerGrant_eq (hg : s.granted = some .holdTimer) (hd : s.dueEntry = some e) :
    s.timerGrant = (s.grantTo .holdTimer).expire e := by
  simp only [timerGrant, if_pos hg, hd]

end State

theorem exec_expiry (s₀ : State) (u : Upset) : exec (.expiry u) s₀ = .next (s₀.upset u).timerGrant := (rfl)

/-- Settles O58: the entry presented is the first due one; its holding is ended by the return path, and then its port is
told. -/
theorem expiryReturnsTheEarliestDueHolding : Obligations.ExpiryReturnsTheEarliestDueHolding := by
  intro s₀ s u e before after m c f q r d hu hg hl hb he hh hf hm hq hd hr
  have executed := exec_expiry s₀ u
  rw [hu, State.timerGrant_eq hg (State.dueEntry_eq_some hl hb he),
    State.expire_taken (s := s.grantTo .holdTimer) hh hf hr] at executed
  have frame := (s.grantTo .holdTimer).endHolding_frame e.port e.slot m q
  have holdings := (s.grantTo .holdTimer).endHolding_holdings e.port e.slot m q
  have timeouts := (s.grantTo .holdTimer).endHolding_timeouts e.port e.slot m q
  have disposes : (s.grantTo .holdTimer).tableDisposition q r d := by
    cases d <;> exact hd
  obtain ⟨returned, units⟩ := (s.grantTo .holdTimer).endHolding_returned e.port e.slot hm hq disposes
  generalize (s.grantTo .holdTimer).endHolding e.port e.slot m q = v at executed frame holdings timeouts returned units
  have unit (x : Port) : v.noticeUnit x = s.afterReturn q d x := (units x).trans (by cases d <;> rfl)
  have raised := v.raiseHoldLost_frame e
  have other := v.raiseHoldLost_noticeUnit_other e
  have same := v.raiseHoldLost_noticeUnit_same e
  generalize v.raiseHoldLost e = t at executed raised other same
  have emptied : t.holdings = (s.emptySlot e.port e.slot).holdings := by
    rw [raised]
    exact holdings
  refine ⟨t, executed, ?_, ?_, State.slotEmptied_of_holdings emptied, ?_, ?_, fun x hx => ?_, ?_, ?_⟩
  · rw [raised, frame]
    rfl
  · have returned' : s.returned v q m r d := by cases d <;> exact returned
    exact State.returned_congr returned' (by rw [raised]) (by rw [raised]) (by rw [raised]) (by rw [raised]) (by rw [raised])
  · have held := State.heldCells_of_emptied emptied
    rw [hh] at held
    exact held
  · rw [raised]
    exact timeouts
  · rw [other x hx, unit]
  · rw [same, unit, frame]
    rfl
  · rw [raised, frame]
    rfl

/-! ## The slot a PORT job's step chooses (R143) -/

/-- Of the entries with the smallest age the first, which in a list that rises by slot is that of the lowest slot. -/
theorem youngest_le {l : List (SlotNo × BitVec 16)} (hl : l.Pairwise (fun a b => a.1 < b.1)) {x : SlotNo × BitVec 16}
    (h : youngest l = some x) :
    x ∈ l ∧ ∀ y ∈ l, x.2.toNat < y.2.toNat ∨ (x.2.toNat = y.2.toNat ∧ x.1 ≤ y.1) := by
  induction l generalizing x with
  | nil => cases h
  | cons a rest ih =>
    obtain ⟨ha, hrest⟩ := List.pairwise_cons.1 hl
    unfold youngest at h
    split at h
    · next hnone =>
      cases h
      have empty : rest = [] := by
        cases rest with
        | nil => rfl
        | cons b more =>
          unfold youngest at hnone
          split at hnone
          · cases hnone
          · split at hnone <;> cases hnone
      rw [empty]
      exact ⟨.head _, fun y hy => by rw [List.mem_singleton.1 hy]; exact .inr ⟨rfl, le_rfl⟩⟩
    · next y hy =>
      obtain ⟨hmem, hle⟩ := ih hrest hy
      split at h
      · next hlt =>
        cases h
        refine ⟨.tail _ hmem, fun z hz => ?_⟩
        rcases List.mem_cons.1 hz with rfl | hz
        · exact .inl hlt
        · exact hle z hz
      · next hlt =>
        cases h
        refine ⟨.head _, fun z hz => ?_⟩
        rcases List.mem_cons.1 hz with rfl | hz
        · exact .inr ⟨rfl, le_rfl⟩
        · have below := ha z hz
          rcases hle z hz with h1 | ⟨h1, -⟩
          · exact .inl (by omega)
          · rcases Nat.lt_or_eq_of_le (Nat.not_lt.1 hlt) with h2 | h2
            · exact .inl (by omega)
            · exact .inr ⟨by omega, below.le⟩

namespace State

variable {s : State} {p : Port} {i : SlotNo}

theorem mem_takenAges {x : SlotNo × BitVec 16} :
    x ∈ s.takenAges p ↔ ∃ f, (s.slot p x.1).holding.taken? = some f ∧ x.2 = s.takeAge p f := by
  obtain ⟨j, a⟩ := x
  unfold takenAges
  rw [List.mem_filterMap]
  constructor
  · rintro ⟨k, -, hk⟩
    obtain ⟨f, hf, he⟩ := Option.map_eq_some_iff.1 hk
    cases he
    exact ⟨f, hf, rfl⟩
  · rintro ⟨f, hf, ha⟩
    exact ⟨j, List.mem_finRange j, Option.map_eq_some_iff.2 ⟨f, hf, congrArg (Prod.mk j) ha.symm⟩⟩

theorem takenAges_pairwise (s : State) (p : Port) : (s.takenAges p).Pairwise (fun a b => a.1 < b.1) := by
  unfold takenAges
  rw [List.pairwise_filterMap]
  refine (List.pairwise_lt_finRange 32).imp fun {a b} hab x hx y hy => ?_
  obtain ⟨f, -, rfl⟩ := Option.map_eq_some_iff.1 hx
  obtain ⟨g, -, rfl⟩ := Option.map_eq_some_iff.1 hy
  exact hab

theorem takenAges_eq_nil (h : ∀ j, (s.slot p j).holding.taken? = none) : s.takenAges p = [] :=
  List.eq_nil_iff_forall_not_mem.2 fun x hx => by
    obtain ⟨f, hf, -⟩ := mem_takenAges.1 hx
    rw [h] at hf
    cases hf

/-- Where no slot is TAKEN, the lowest FRESH slot is chosen. -/
theorem reclaimChoice_of_untaken (h : ∀ j, (s.slot p j).holding.taken? = none) : s.reclaimChoice p = s.freshSlot p := by
  rw [reclaimChoice, takenAges_eq_nil h]
  rfl

theorem reclaimChoice_eq_some (h : s.stepChooses p i) : s.reclaimChoice p = some i := by
  rcases h with ⟨f, hf, hmin⟩ | ⟨htaken, hfresh, hlow⟩
  · have listed : (i, s.takeAge p f) ∈ s.takenAges p := mem_takenAges.2 ⟨f, hf, rfl⟩
    cases hy : youngest (s.takenAges p) with
    | none =>
      cases hl : s.takenAges p with
      | nil =>
        rw [hl] at listed
        cases listed
      | cons a rest =>
        rw [hl] at hy
        unfold youngest at hy
        split at hy
        · cases hy
        · split at hy <;> cases hy
    | some y =>
      obtain ⟨hmem, hle⟩ := youngest_le (s.takenAges_pairwise p) hy
      obtain ⟨g, hg, hage⟩ := mem_takenAges.1 hmem
      have first : y.2.toNat < (s.takeAge p f).toNat ∨ (y.2.toNat = (s.takeAge p f).toNat ∧ y.1 ≤ i) := hle _ listed
      rw [hage] at first
      have same : y.1 = i := by
        rcases hmin y.1 g hg with h1 | ⟨h1, h2⟩
        · rcases first with h3 | ⟨h3, -⟩ <;> omega
        · rcases first with h3 | ⟨-, h3⟩
          · omega
          · exact le_antisymm h3 h2
      rw [reclaimChoice, hy, ← same]
  · rw [reclaimChoice_of_untaken htaken, freshSlot, List.find?_eq_some_iff_append]
    obtain ⟨before, after, hsplit⟩ := List.append_of_mem (List.mem_finRange i)
    have rises := List.pairwise_lt_finRange 32
    rw [hsplit, List.pairwise_append] at rises
    obtain ⟨-, -, hbelow⟩ := rises
    exact ⟨hfresh, before, after, hsplit, fun j hj => by simp [hlow j (hbelow j hj i List.mem_cons_self)]⟩

theorem reclaimChoice_of_empty (h : ∀ j, (s.slot p j).holding = .empty) : s.reclaimChoice p = none := by
  rw [reclaimChoice_of_untaken fun j => by rw [h]; rfl, freshSlot, List.find?_eq_none]
  intro j _
  rw [h]
  exact Bool.false_ne_true

theorem holdsAny_eq_false : s.holdsAny p = false ↔ ∀ j, (s.slot p j).holding = .empty := by
  rw [holdsAny, slots_eq_map, List.any_eq_false]
  simp [Holding.isEmpty_eq_true]

/-- With slot `i` emptied the port holds nothing exactly where `i` was its last holding. -/
theorem holdsAny_of_emptied {t : State} (h : t.holdings = (s.emptySlot p i).holdings) :
    t.holdsAny p = false ↔ s.lastHolding p i := by
  obtain ⟨hempty, hkept⟩ := slotEmptied_of_holdings h
  rw [holdsAny_eq_false]
  refine ⟨fun hall j hj => ?_, fun hlast j => ?_⟩
  · rw [← hkept p j (.inr hj)]
    exact hall j
  · by_cases hj : j = i
    · rw [hj, hempty]
    · rw [hkept p j (.inr hj)]
      exact hlast j hj

/-! ## The end of a PORT job (R144) -/

/-- The port entry at the end of the job: a RECLAIMING port takes the end state. -/
def jobDone (s : State) (p : Port) (x : SettleState) : State :=
  let t := s.popJob
  if (t.port p).state = .reclaiming then t.movePort p x.toPortState (t.port p).settle else t

theorem completePortJob_eq (s : State) (p : Port) (x : SettleState) :
    s.completePortJob p x = (s.jobDone p x).raisePortEvent p Reasons.reclaimDone := (rfl)

theorem jobDone_frame (s : State) (p : Port) (x : SettleState) :
    s.jobDone p x = { s with jobs := s.jobs.tail, ports := (s.jobDone p x).ports } := by
  unfold jobDone
  dsimp only
  split <;> rfl

theorem jobDone_port_same (s : State) (p : Port) (x : SettleState) :
    (s.jobDone p x).port p =
      { s.port p with
        state := if (s.port p).state = .reclaiming then x.toPortState else (s.port p).state } := by
  unfold jobDone
  dsimp only
  split
  · next h =>
    rw [movePort_port_same, if_pos (show (s.port p).state = .reclaiming from h)]
    rfl
  · next h =>
    rw [if_neg (show ¬(s.port p).state = .reclaiming from h)]
    rfl

theorem jobDone_port_other (s : State) (p : Port) (x : SettleState) (r : Port) (h : r ≠ p) :
    (s.jobDone p x).port r = s.port r := by
  unfold jobDone
  dsimp only
  split
  · rw [movePort_port_other _ p r _ _ h]
    rfl
  · rfl

theorem completePortJob_frame (s : State) (p : Port) (x : SettleState) :
    s.completePortJob p x =
      { s with
        jobs := s.jobs.tail
        ports := (s.completePortJob p x).ports
        notices := (s.completePortJob p x).notices } := by
  have done := s.jobDone_frame p x
  rw [completePortJob_eq]
  generalize s.jobDone p x = v at done ⊢
  rw [raisePortEvent_frame, done]

/-- A PORT job's end, from the state `s` before its last step to the state `v` in which the job ends: it moves the port,
and tells the other admin ports, by what they are in `s`. -/
theorem completePortJob_ended {s v : State} {p : Port} {x : SettleState} {js : List Job} (hj : s.jobs = .port p x :: js)
    (hjobs : v.jobs = s.jobs) (hports : v.ports = s.ports) (hinterfaces : v.interfaces = s.interfaces) :
    s.portJobEnded (v.completePortJob p x) p x js v.noticeUnit := by
  have port (r : Port) : v.port r = s.port r := by simp only [State.port, hports]
  have interface (r : Port) : v.interface r = s.interface r := by simp only [State.interface, hinterfaces]
  have done := v.jobDone_frame p x
  refine ⟨?_, ?_, fun r hr => ?_, ?_, fun r hr => ?_⟩
  · rw [completePortJob_frame, hjobs, hj]
    rfl
  · rw [completePortJob_eq, raisePortEvent_port, jobDone_port_same, port]
    cases x <;> rfl
  · rw [completePortJob_eq, raisePortEvent_port, jobDone_port_other _ _ _ r hr, port]
  · rw [completePortJob_eq, raisePortEvent_noticeUnit, afterPortEvent_self, done]
    rfl
  · have told : (v.jobDone p x).afterPortEvent p r Reasons.reclaimDone = v.afterPortEvent p r Reasons.reclaimDone := by
      refine afterPortEvent_congr (jobDone_port_other _ _ _ r hr) ?_ ?_ p _
      · rw [done]
        rfl
      · rw [done]
        rfl
    have admin : v.attachedAdmin r = s.attachedAdmin r := by simp only [attachedAdmin, port]
    rw [completePortJob_eq, raisePortEvent_noticeUnit, told, afterPortEvent, admin]
    simp only [hr, ne_eq, not_false_eq_true, and_true, portEvent, interface]
    rfl

end State

/-! ## The step (R143) -/

section Step

variable {s₀ s : State} {u : Upset} {p : Port} {x : SettleState} {js : List Job} {i : SlotNo}

theorem exec_portJobStep (hu : s₀.upset u = s) (hg : s.granted = some .reclaimUnit) (hj : s.jobs = .port p x :: js) :
    exec (.portJobStep u) s₀ = .next ((s.grantTo .reclaimUnit).portStep p x) := by
  have stepped : exec (.portJobStep u) s₀ = execPortJobStep u s₀ := rfl
  rw [stepped, execPortJobStep, hu, if_pos hg, hj]

theorem State.portStep_eq {h : Holding} (hi : s.reclaimChoice p = some i) (hh : (s.slot p i).holding = h)
    (hr : s.readsClear (s.reclaimReads h)) :
    s.portStep p x = (s.reclaimHolding p i h).completeIfEmpty p x := by
  simp only [portStep, hi, hh, s.requestReads_clear _ _ _ ((s.mismatch_eq_none _).2 hr)]

/-- What a step makes of the job, once the chosen holding has ended in state `v`: the job ends with the last holding and
goes on otherwise. -/
theorem State.completeIfEmpty_cases {v : State} (hj : s.jobs = .port p x :: js) (hjobs : v.jobs = s.jobs)
    (hports : v.ports = s.ports) (hinterfaces : v.interfaces = s.interfaces)
    (hh : v.holdings = (s.emptySlot p i).holdings) :
    v.completeIfEmpty p x =
        { v with
          jobs := (v.completeIfEmpty p x).jobs
          ports := (v.completeIfEmpty p x).ports
          notices := (v.completeIfEmpty p x).notices } ∧
      (s.lastHolding p i → s.portJobEnded (v.completeIfEmpty p x) p x js v.noticeUnit) ∧
      (¬ s.lastHolding p i → s.portJobGoesOn (v.completeIfEmpty p x) v.noticeUnit) := by
  by_cases hlast : s.lastHolding p i
  · have ended : v.completeIfEmpty p x = v.completePortJob p x := by
      rw [completeIfEmpty, (holdsAny_of_emptied hh).2 hlast, if_neg Bool.false_ne_true]
    have frame := v.completePortJob_frame p x
    have job := completePortJob_ended hj hjobs hports hinterfaces
    rw [ended]
    generalize v.completePortJob p x = t at frame job
    refine ⟨?_, fun _ => job, fun h => absurd hlast h⟩
    rw [frame]
  · have goes : v.completeIfEmpty p x = v := by
      rw [completeIfEmpty, if_pos]
      exact Bool.eq_true_of_not_eq_false (mt (holdsAny_of_emptied hh).1 hlast)
    rw [goes]
    exact ⟨rfl, fun h => absurd h hlast, fun _ => ⟨hjobs, hports, fun _ => rfl⟩⟩

end Step

/-- A holding of a message without a source is FRESH, or TAKEN and orphaned: it is dropped (R143). -/
theorem State.reclaim_unsourced {s : State} {p : Port} {i : SlotNo} {m : CellNo} {h : Holding}
    (hm : h.message? = some m) (hs : h.source? = none) :
    s.reclaimReads h = s.freeReads m ∧ s.reclaimHolding p i h = s.dropHolding p i m := by
  cases h with
  | empty => cases hm
  | fresh k c =>
    cases hm
    exact ⟨rfl, rfl⟩
  | taken k c f =>
    cases hm
    have source : f.source = none := hs
    simp only [reclaimReads, reclaimHolding, source, and_self]

theorem State.reclaim_sourced {s : State} {p : Port} {i : SlotNo} {m : CellNo} {c : Nat} {f : TakenFields} {q : QueueNo}
    (hf : f.source = some q) :
    s.reclaimReads (.taken m c f) = s.returnReads q m ∧
      s.reclaimHolding p i (.taken m c f) = s.endHolding p i m q := by
  simp only [reclaimReads, reclaimHolding, hf, and_self]

/-- Settles O59: the slot chosen is `reclaimChoice`'s; its holding is dropped or returned, and the job ends with the last
holding. -/
theorem portJobStepReturnsOneHolding : Obligations.PortJobStepReturnsOneHolding := by
  intro s₀ s u p x js hu hg hj
  have executed := exec_portJobStep hu hg hj
  refine ⟨fun hempty => ?_, fun i m hi hm hsource hr => ?_, fun i m c f q r d hi hh hf hm hq hd hr => ?_⟩
  · have none : (s.grantTo .reclaimUnit).reclaimChoice p = none := State.reclaimChoice_of_empty hempty
    rw [State.portStep, none] at executed
    have frame := (s.grantTo .reclaimUnit).completePortJob_frame p x
    have job : s.portJobEnded ((s.grantTo .reclaimUnit).completePortJob p x) p x js s.noticeUnit :=
      State.completePortJob_ended (v := s.grantTo .reclaimUnit) hj rfl rfl rfl
    generalize (s.grantTo .reclaimUnit).completePortJob p x = t at executed frame job
    refine ⟨t, executed, ?_, job, ?_⟩
    · rw [frame]
      rfl
    · rw [frame]
      rfl
  · obtain ⟨reads, dropped⟩ := State.reclaim_unsourced (s := s.grantTo .reclaimUnit) (p := p) (i := i) hm hsource
    rw [State.portStep_eq (s := s.grantTo .reclaimUnit) (h := (s.slot p i).holding) (State.reclaimChoice_eq_some hi) rfl (by rw [reads]; exact hr),
      dropped] at executed
    have frame := (s.grantTo .reclaimUnit).dropHolding_frame p i m
    have holdings := (s.grantTo .reclaimUnit).dropHolding_holdings p i m
    have freed := (s.grantTo .reclaimUnit).dropHolding_freed p i m
    generalize (s.grantTo .reclaimUnit).dropHolding p i m = v at executed frame holdings freed
    obtain ⟨kept, ended, goes⟩ := State.completeIfEmpty_cases (s := s) (v := v) (x := x) (i := i) hj
      (by rw [frame]; rfl) (by rw [frame]; rfl) (by rw [frame]; rfl) holdings
    generalize v.completeIfEmpty p x = t at executed kept ended goes
    have units : v.noticeUnit = s.noticeUnit := by rw [frame]; rfl
    have emptied : t.holdings = (s.emptySlot p i).holdings := by
      rw [kept]
      exact holdings
    rw [units] at ended goes
    refine ⟨t, executed, ?_, ?_, State.slotEmptied_of_holdings emptied, State.heldCells_of_emptied emptied, ended, goes, ?_⟩
    · rw [kept, frame]
      rfl
    · have freed' : s.freed v m := freed
      exact State.freed_congr freed' (by rw [kept]) (by rw [kept]) (by rw [kept]) (by rw [kept])
    · rw [kept, frame]
      rfl
  · obtain ⟨reads, returns⟩ :=
      State.reclaim_sourced (s := s.grantTo .reclaimUnit) (p := p) (i := i) (m := m) (c := c) hf
    rw [State.portStep_eq (s := s.grantTo .reclaimUnit) (State.reclaimChoice_eq_some hi) hh (by rw [reads]; exact hr),
      returns] at executed
    have frame := (s.grantTo .reclaimUnit).endHolding_frame p i m q
    have holdings := (s.grantTo .reclaimUnit).endHolding_holdings p i m q
    have timeouts := (s.grantTo .reclaimUnit).endHolding_timeouts p i m q
    have disposes : (s.grantTo .reclaimUnit).tableDisposition q r d := by
      cases d <;> exact hd
    obtain ⟨returned, units⟩ := (s.grantTo .reclaimUnit).endHolding_returned p i hm hq disposes
    generalize (s.grantTo .reclaimUnit).endHolding p i m q = v at executed frame holdings timeouts returned units
    obtain ⟨kept, ended, goes⟩ := State.completeIfEmpty_cases (s := s) (v := v) (x := x) (i := i) hj
      (by rw [frame]; rfl) (by rw [frame]; rfl) (by rw [frame]; rfl) holdings
    generalize v.completeIfEmpty p x = t at executed kept ended goes
    have unit : v.noticeUnit = s.afterReturn q d := funext fun y => (units y).trans (by cases d <;> rfl)
    have emptied : t.holdings = (s.emptySlot p i).holdings := by
      rw [kept]
      exact holdings
    rw [unit] at ended goes
    refine ⟨t, executed, ?_, ?_, State.slotEmptied_of_holdings emptied, ?_, ?_, ended, goes, ?_⟩
    · rw [kept, frame]
      rfl
    · have returned' : s.returned v q m r d := by cases d <;> exact returned
      exact State.returned_congr returned' (by rw [kept]) (by rw [kept]) (by rw [kept]) (by rw [kept]) (by rw [kept])
    · have held := State.heldCells_of_emptied emptied
      rw [hh] at held
      exact held
    · rw [kept]
      exact timeouts
    · rw [kept, frame]
      rfl

end Sys2Proof.Machine
end

section
/-! Proofs/WindowChecks.lean: where a data window access goes: refused, halting the device, or to one cell word; and the
accesses that reach a CLEAN or CORRECTED word. -/

namespace Sys2Proof.Machine

/-! ## The checks of R35 -/

namespace State

variable {s : State} {p : Port} {offset : DataOffset}

theorem halt_eq (s : State) (e : ControlEntry) (a : Agent) : s.halt e a = s.haltedBy e a := by
  cases e <;> rfl

theorem windowCheck_of_down (h : (s.port p).state = .down) : s.windowCheck p offset = .down := if_pos h

/-- Past the port's state and the device's, the selected handle decides. -/
theorem windowCheck_of_attached (hd : s.device ≠ .halted) (hs : (s.port p).state = .attached) {x : Handle}
    (hx : (s.interface p).select = some x) : s.windowCheck p offset = s.windowMap p x offset := by
  simp [windowCheck, hd, hs, hx]

theorem windowMap_of_unnamed {x : Handle} (h : ∀ i, ¬ s.names p x i) : s.windowMap p x offset = .refused := by
  simp only [windowMap, (s.validHandle_eq_none p x).2 h]

theorem windowMap_of_beyond {x : Handle} {i : SlotNo} (hi : s.names p x i)
    (h : 64 * (s.slot p i).holding.cellCount ≤ offset.toNat) : s.windowMap p x offset = .refused := by
  simp only [windowMap, (s.validHandle_eq_some p x i).2 hi, if_pos h]

theorem mismatch_record_of_mem {m : CellNo} (h : .record m ∈ s.parityErrors) :
    s.mismatch [.record m] = some (.record m) :=
  (s.mismatch_eq_some _ _).2 ⟨[], [], rfl, by simp [readsClear], h⟩

theorem mismatch_record_of_not_mem {m : CellNo} (h : .record m ∉ s.parityErrors) : s.mismatch [.record m] = none :=
  (s.mismatch_eq_none _).2 fun e he => by rwa [List.mem_singleton.1 he]

/-- Within the message's cells the record is read, and the map goes on only where its parity holds. -/
theorem windowMap_mismatch {x : Handle} {i : SlotNo} {m : CellNo} (hi : s.names p x i)
    (hm : (s.slot p i).holding.message? = some m) (h : offset.toNat < 64 * (s.slot p i).holding.cellCount)
    (hp : .record m ∈ s.parityErrors) : s.windowMap p x offset = .mismatch (.record m) := by
  simp only [windowMap, (s.validHandle_eq_some p x i).2 hi, if_neg (Nat.not_le.2 h), hm, mismatch_record_of_mem hp]

theorem windowMap_reaches {x : Handle} {i : SlotNo} {m c : CellNo} (hi : s.names p x i)
    (hm : (s.slot p i).holding.message? = some m) (h : offset.toNat < 64 * (s.slot p i).holding.cellCount)
    (hp : .record m ∉ s.parityErrors) (hc : (s.messageCells m)[cellIndex offset]? = some c) :
    s.windowMap p x offset = .reaches { message := m, cell := c, word := wordIndex offset } := by
  simp only [windowMap, (s.validHandle_eq_some p x i).2 hi, if_neg (Nat.not_le.2 h), hm,
    mismatch_record_of_not_mem hp, hc]

theorem windowCheck_of_reachesCell {m c : CellNo} {w : WordNo} (h : s.reachesCell p offset m c w) :
    s.windowCheck p offset = .reaches { message := m, cell := c, word := w } := by
  obtain ⟨hd, hs, hw, x, i, r, hx, hi, hm, hr, hcount, hlt, hc, hp⟩ := h
  have cells : (s.messageCells m)[cellIndex offset]? = some c := by
    simp only [messageCells, hr]
    exact hc
  have word : wordIndex offset = w := Fin.ext hw.symm
  rw [windowCheck_of_attached hd hs hx, windowMap_reaches hi hm (by rw [hcount]; exact hlt) hp cells, word]

/-- The refusals of R35: the device, the port, the select register, the handle, the message's end. -/
theorem windowCheck_refused (hs : (s.port p).state ≠ .down)
    (h : s.device = .halted ∨ (s.port p).state = .reclaiming ∨ (s.port p).state = .fenced ∨
      (s.interface p).select = none ∨
      (∃ x, (s.interface p).select = some x ∧
        ((∀ i, ¬ s.names p x i) ∨ ∃ i, s.names p x i ∧ 64 * (s.slot p i).holding.cellCount ≤ offset.toNat))) :
    s.windowCheck p offset = .refused := by
  by_cases hd : s.device = .halted
  · simp [windowCheck, hs, hd]
  by_cases ha : (s.port p).state = .attached
  · rcases h with h | h | h | h | ⟨x, hx, h⟩
    · exact absurd h hd
    · simp [ha] at h
    · simp [ha] at h
    · simp [windowCheck, hd, ha, h]
    · rw [windowCheck_of_attached hd ha hx]
      rcases h with h | ⟨i, hi, h⟩
      · exact windowMap_of_unnamed h
      · exact windowMap_of_beyond hi h
  · have away : (s.port p).state = .reclaiming ∨ (s.port p).state = .fenced := by
      cases hp : (s.port p).state <;> simp_all
    simp [windowCheck, hs, hd, away]

theorem setInterface_drive (i : PortInterface) (w : Word) :
    (s.setInterface p i).drive p w = s.setInterface p { i with readData := w } := by
  rw [drive, setInterface_interface_same, setInterface_setInterface]

theorem setFlag_window (hs : (s.port p).state ≠ .down) :
    s.setFlag p .window = s.setInterface p { s.interface p with window := true } :=
  s.setFlag_of_not_down p .window hs

end State

section Exec

variable {s₀ s : State} {u : Upset} {p : Port} {offset : DataOffset} {data : Word} {strobes : Strobes} {flips : Flips}

theorem exec_windowRead (hu : s₀.upset u = s) :
    exec (.windowRead p offset flips u) s₀ = .next (s.windowRead p offset flips) := by
  rw [← hu]
  rfl

theorem exec_windowWrite (hu : s₀.upset u = s) :
    exec (.windowWrite p offset data strobes flips u) s₀ = .next (s.windowWrite p offset data strobes flips) := by
  rw [← hu]
  rfl

end Exec

/-- Settles O53: the three ways in which the checks end before a cell. -/
theorem windowRefusalsReachNoCell : Obligations.WindowRefusalsReachNoCell := by
  intro s₀ s u p offset data strobes flips hu
  rw [exec_windowRead hu, exec_windowWrite hu]
  refine ⟨fun hs => ?_, fun hs h => ?_, fun x i m hd hs hx hi hm hlt hp => ?_⟩
  · rw [State.windowRead, State.windowWrite, State.windowCheck_of_down hs]
    exact ⟨rfl, rfl⟩
  · rw [State.windowRead, State.windowWrite, State.windowCheck_refused hs h]
    exact ⟨by rw [State.setFlag_window hs, State.setInterface_drive], by rw [State.setFlag_window hs]⟩
  · have up : ((s.haltedBy (.record m) (.port p)).port p).state ≠ .down := fun h => by
      have down : (s.port p).state = .down := h
      rw [hs] at down
      cases down
    rw [State.windowRead, State.windowWrite, State.windowCheck_of_attached hd hs hx, State.windowMap_mismatch hi hm hlt hp]
    dsimp only
    rw [State.halt_eq, State.setFlag_window up, State.setInterface_drive]
    exact ⟨rfl, rfl⟩

/-! ## The halves and bytes of a cell word -/

theorem highHalf_eq (offset : DataOffset) : highHalf offset = decide (4 ≤ offset.toNat % 8) := by
  rw [highHalf, BitVec.getLsbD, Nat.testBit_eq_decide_div_mod_eq]
  exact decide_eq_decide.2 (by omega)

theorem halfOf_highHalf (offset : DataOffset) (d : BitVec 64) :
    halfOf (highHalf offset) d = if offset.toNat % 8 < 4 then d.extractLsb' 0 32 else d.extractLsb' 32 32 := by
  rw [highHalf_eq, halfOf]
  by_cases h : offset.toNat % 8 < 4
  · rw [if_pos h, if_neg (by simpa using h)]
  · rw [if_neg h, if_pos (by simpa using h)]

/-- Byte `k` of two halves side by side. -/
theorem append_lane (a b : Word) (k : Fin 8) :
    (a ++ b : BitVec 64).extractLsb' (8 * k.val) 8 =
      if k.val < 4 then b.extractLsb' (8 * (k.val % 4)) 8 else a.extractLsb' (8 * (k.val % 4)) 8 := by
  have hk := k.isLt
  ext j hj
  rw [BitVec.getElem_extractLsb', BitVec.getLsbD_append]
  split
  · next h => rw [if_pos (by omega), BitVec.getElem_extractLsb', Nat.mod_eq_of_lt (by omega)]
  · next h => rw [if_neg (by omega), BitVec.getElem_extractLsb', show 8 * k.val + j - 32 = 8 * (k.val % 4) + j by omega]

theorem half_lane (d : BitVec 64) (start : Nat) (j : Nat) (h : j < 4) :
    (d.extractLsb' start 32).extractLsb' (8 * j) 8 = d.extractLsb' (start + 8 * j) 8 := by
  ext i hi
  rw [BitVec.getElem_extractLsb', BitVec.getLsbD_extractLsb', BitVec.getElem_extractLsb', decide_eq_true (by omega),
    Bool.true_and, Nat.add_assoc]

/-- A write changes the strobed bytes of the addressed half (R37). -/
theorem mergeHalf_lane (offset : DataOffset) (strobes : Strobes) (d : BitVec 64) (data : Word) (k : Fin 8) :
    (mergeHalf (highHalf offset) strobes d data).extractLsb' (8 * k.val) 8 =
      if (4 ≤ k.val ↔ 4 ≤ offset.toNat % 8) ∧ strobes.getLsbD (k.val % 4) = true
        then data.extractLsb' (8 * (k.val % 4)) 8 else d.extractLsb' (8 * k.val) 8 := by
  have hk := k.isLt
  have lane (old : Word) := mergeBytes_lane strobes old data ⟨k.val % 4, by omega⟩
  dsimp only at lane
  rw [highHalf_eq, mergeHalf]
  by_cases hhigh : 4 ≤ offset.toNat % 8
  · rw [if_pos (by simpa using hhigh), append_lane]
    by_cases hlow : k.val < 4
    · rw [if_pos hlow, half_lane _ _ _ (by omega), if_neg (by omega), Nat.zero_add, Nat.mod_eq_of_lt hlow]
    · rw [if_neg hlow, lane, half_lane _ _ _ (by omega), show 32 + 8 * (k.val % 4) = 8 * k.val by omega]
      simp [hhigh, Nat.not_lt.1 hlow]
  · rw [if_neg (by simpa using hhigh), append_lane]
    by_cases hlow : k.val < 4
    · rw [if_pos hlow, lane, half_lane _ _ _ (by omega), Nat.zero_add]
      simp [hhigh, Nat.not_le.2 hlow, Nat.mod_eq_of_lt hlow]
    · rw [if_neg hlow, half_lane _ _ _ (by omega), show 32 + 8 * (k.val % 4) = 8 * k.val by omega]
      simp [hhigh, Nat.not_lt.1 hlow]

/-! ## One cell word of the store -/

namespace State

variable (s : State) (c : CellNo) (w : WordNo)

theorem otherBytesKept_trans {s t v : State} {c : CellNo} {w : WordNo} (h1 : s.otherBytesKept t c w)
    (h2 : t.otherBytesKept v c w) : s.otherBytesKept v c w := fun a hd hc =>
  (h2 a hd hc).trans (h1 a hd hc)

theorem setCellWord_otherBytesKept (v : CellWord) : s.otherBytesKept (s.setCellWord c w v) c w := fun a hd hc =>
  Memory.read_writeWord_other s.store c w v a hd hc

/-- The access finds the word with the flipped bits turned over, and every other byte as it was (log 10). -/
theorem flipBits_cellWord (flips : Flips) : (s.flipBits c w flips).cellWord c w = s.cellWord c w ^^^ flips := by
  unfold flipBits
  split
  · next h =>
    rw [h]
    exact (BitVec.xor_zero).symm
  · exact s.cellWord_setCellWord_same c w _

theorem flipBits_otherBytesKept (flips : Flips) : s.otherBytesKept (s.flipBits c w flips) c w := by
  unfold flipBits
  split
  · exact fun _ _ _ => rfl
  · exact s.setCellWord_otherBytesKept c w _

end State

/-- A count stays at its maximum (R162). -/
theorem raiseCount_toNat {w : Nat} (hw : 0 < w) (n : BitVec w) :
    (raiseCount n).toNat = min (n.toNat + 1) (2 ^ w - 1) := by
  have hlt := n.isLt
  unfold raiseCount
  split
  · next h =>
    rw [h, BitVec.toNat_allOnes]
    omega
  · next h =>
    rw [← BitVec.toNat_inj, BitVec.toNat_allOnes] at h
    have one : (1 : BitVec w).toNat = 1 := BitVec.toNat_one hw
    rw [BitVec.toNat_add_of_lt (by omega), one]
    omega

/-! ## Reads and writes of a CLEAN or CORRECTED word -/

section Reached

variable {s : State} {p : Port} {t : WindowTarget} {high : Bool} {data : Word} {strobes : Strobes} {d : BitVec 64}

theorem State.readReached_clean (h : s.wordRead t = .clean d) : s.readReached p t high = s.drive p (halfOf high d) := by
  simp only [readReached, h]

theorem State.readReached_corrected (h : s.wordRead t = .corrected d) :
    s.readReached p t high =
      ((s.setCellWord t.cell t.word (encodeWord d)).countCorrectable).drive p (halfOf high d) := by
  simp only [readReached, h]

theorem State.writeReached_clean (h : s.wordRead t = .clean d) :
    s.writeReached p t high data strobes =
      s.setCellWord t.cell t.word (encodeWord (mergeHalf high strobes d data)) := by
  simp only [writeReached, h]

theorem State.writeReached_corrected (h : s.wordRead t = .corrected d) :
    s.writeReached p t high data strobes =
      (s.setCellWord t.cell t.word (encodeWord (mergeHalf high strobes d data))).countCorrectable := by
  simp only [writeReached, h]

end Reached

section Reaches

variable {s₀ s : State} {u : Upset} {p : Port} {offset : DataOffset} {data : Word} {strobes : Strobes} {flips : Flips}
  {m c : CellNo} {w : WordNo}

theorem exec_windowRead_reaches (hu : s₀.upset u = s) (h : s.reachesCell p offset m c w) :
    exec (.windowRead p offset flips u) s₀ =
      .next ((s.flipBits c w flips).readReached p { message := m, cell := c, word := w } (highHalf offset)) := by
  rw [exec_windowRead hu, State.windowRead, State.windowCheck_of_reachesCell h]

theorem exec_windowWrite_reaches (hu : s₀.upset u = s) (h : s.reachesCell p offset m c w) :
    exec (.windowWrite p offset data strobes flips u) s₀ =
      .next ((s.flipBits c w flips).writeReached p { message := m, cell := c, word := w } (highHalf offset) data
        strobes) := by
  rw [exec_windowWrite hu, State.windowWrite, State.windowCheck_of_reachesCell h]

/-- The access classifies the word with its flipped bits (log 10). -/
theorem State.flipBits_wordRead (s : State) (m c : CellNo) (w : WordNo) (flips : Flips) :
    (s.flipBits c w flips).wordRead { message := m, cell := c, word := w } = classify (s.cellWord c w ^^^ flips) := by
  rw [wordRead, flipBits_cellWord]

end Reaches

/-- Settles O54: a CLEAN word is driven as it stands; a CORRECTED one is written back and counted first. -/
theorem windowReadReturnsTheAddressedHalf : Obligations.WindowReadReturnsTheAddressedHalf := by
  intro s₀ s u p offset flips m c w d hu h hd
  have executed := exec_windowRead_reaches (flips := flips) hu h
  have read := s.flipBits_wordRead m c w flips
  have word := s.flipBits_cellWord c w flips
  have bytes := s.flipBits_otherBytesKept c w flips
  have frame := s.flipBits_frame c w flips
  generalize s.flipBits c w flips = v at executed read word bytes frame
  have interface (r : Port) : v.interface r = s.interface r := by rw [frame]; rfl
  rcases hd with hclean | hcorrected
  · rw [State.readReached_clean (read.trans hclean), halfOf_highHalf] at executed
    refine ⟨_, executed, ?_, fun r hr => ?_, fun _ => ⟨word, ?_⟩, fun hc => ?_, bytes, ?_⟩
    · rw [State.drive_interface_same, interface]
    · rw [State.drive_interface_other _ p _ r hr, interface]
    · rw [frame]
      rfl
    · rw [hclean] at hc
      cases hc
    · rw [frame]
      rfl
  · rw [State.readReached_corrected (read.trans hcorrected), halfOf_highHalf] at executed
    refine ⟨_, executed, ?_, fun r hr => ?_, fun hc => ?_, fun _ => ⟨v.cellWord_setCellWord_same c w _, ?_⟩,
      State.otherBytesKept_trans bytes (v.setCellWord_otherBytesKept c w _), ?_⟩
    · exact (State.drive_interface_same _ p _).trans (by rw [← interface]; rfl)
    · exact (State.drive_interface_other _ p _ r hr).trans (interface r)
    · rw [hcorrected] at hc
      cases hc
    · rw [frame]
      exact raiseCount_toNat (by decide) s.correctable
    · rw [frame]
      rfl

/-- Settles O55: the strobed bytes of the addressed half are merged into the data read, and the word is encoded anew. -/
theorem windowWriteMergesTheStrobedBytes : Obligations.WindowWriteMergesTheStrobedBytes := by
  intro s₀ s u p offset data strobes flips m c w d hu h hd
  have executed := exec_windowWrite_reaches (data := data) (strobes := strobes) (flips := flips) hu h
  have read := s.flipBits_wordRead m c w flips
  have bytes := s.flipBits_otherBytesKept c w flips
  have frame := s.flipBits_frame c w flips
  generalize s.flipBits c w flips = v at executed read bytes frame
  have merged := mergeHalf_lane offset strobes d data
  rcases hd with hclean | hcorrected
  · rw [State.writeReached_clean (read.trans hclean)] at executed
    refine ⟨_, _, executed, v.cellWord_setCellWord_same c w _, merged, fun _ => ?_, fun hc => ?_,
      State.otherBytesKept_trans bytes (v.setCellWord_otherBytesKept c w _), ?_⟩
    · rw [frame]
      rfl
    · rw [hclean] at hc
      cases hc
    · rw [frame]
      rfl
  · rw [State.writeReached_corrected (read.trans hcorrected)] at executed
    refine ⟨_, _, executed, v.cellWord_setCellWord_same c w _, merged, fun hc => ?_, fun _ => ?_,
      State.otherBytesKept_trans bytes (v.setCellWord_otherBytesKept c w _), ?_⟩
    · rw [hcorrected] at hc
      cases hc
    · rw [frame]
      exact raiseCount_toNat (by decide) s.correctable
    · rw [frame]
      rfl

end Sys2Proof.Machine
end

section
/-! Proofs/UncorrectableWords.lean: what a window access that reaches an UNCORRECTABLE word records: the mark, the damage,
the flag, the count and the capture register. -/

namespace Sys2Proof.Machine

namespace State

/-! ## What is recorded before the report (R161, R162) -/

/-- The mark, the damage, the sticky flag and the count of an UNCORRECTABLE access (R161, R162). -/
def recordDamage (s : State) (p : Port) (t : WindowTarget) : State :=
  let u := ((s.markCell t.cell).damage t.message).setFlag p .data
  { u with uncorrectable := raiseCount u.uncorrectable }

variable (s : State) (p : Port) (t : WindowTarget)

theorem uncorrectableAccess_eq (a : Access) :
    s.uncorrectableAccess p t a =
      (s.recordDamage p t).captureReport
        { valid := true, kind := .data, location := t.cell, word := t.word, agent := .port p, access := a } := (rfl)

theorem damage_frame (m : CellNo) :
    s.damage m = { s with messages := (s.damage m).messages, parityErrors := (s.damage m).parityErrors } := by
  unfold damage writeEntry
  rw [updateMessage_frame]

theorem recordDamage_frame :
    s.recordDamage p t =
      { s with
        faultMarks := (s.recordDamage p t).faultMarks
        messages := (s.recordDamage p t).messages
        parityErrors := (s.recordDamage p t).parityErrors
        interfaces := (s.recordDamage p t).interfaces
        uncorrectable := (s.recordDamage p t).uncorrectable } := by
  unfold recordDamage
  rw [setFlag_frame, damage_frame]
  rfl

theorem recordDamage_marked (x : CellNo) :
    (s.recordDamage p t).marked x = true ↔ s.marked x = true ∨ x = t.cell := by
  have marks : (s.recordDamage p t).faultMarks = insertCell t.cell s.faultMarks := by
    unfold recordDamage
    rw [setFlag_frame, damage_frame]
    rfl
  rw [marked, marked, marks, List.contains_iff_mem, List.contains_iff_mem, mem_insertCell, or_comm]

theorem recordDamage_message (k : CellNo) :
    (s.recordDamage p t).message k =
      if t.message = k then (s.message k).map (fun r => { r with damaged := true }) else s.message k := by
  have kept : (s.recordDamage p t).message k =
      ((s.markCell t.cell).updateMessage t.message (fun r => { r with damaged := true })).message k :=
    setFlag_message _ p .data k
  rw [kept, updateMessage_message]
  rfl

theorem recordDamage_parityErrors : (s.recordDamage p t).parityErrors = s.parityWithout [.record t.message] := by
  have kept : (s.recordDamage p t).parityErrors = ((s.markCell t.cell).damage t.message).parityErrors :=
    setFlag_parityErrors _ p .data
  rw [kept, damage, writeEntry_parityErrors, parityWithout, updateMessage_parityErrors]
  rfl

theorem recordDamage_uncorrectable : (s.recordDamage p t).uncorrectable = raiseCount s.uncorrectable := by
  unfold recordDamage
  dsimp only
  rw [setFlag_uncorrectable, damage_frame]
  rfl

theorem recordDamage_interface_same (h : (s.port p).state ≠ .down) :
    (s.recordDamage p t).interface p = { s.interface p with data := true } := by
  have up : (((s.markCell t.cell).damage t.message).port p).state ≠ .down := by
    rw [damage_frame]
    exact h
  have kept : (s.recordDamage p t).interface p = (((s.markCell t.cell).damage t.message).setFlag p .data).interface p := rfl
  rw [kept, setFlag_of_not_down _ p .data up, setInterface_interface_same, damage_frame]
  rfl

theorem recordDamage_interface_other (r : Port) (h : r ≠ p) :
    (s.recordDamage p t).interface r = s.interface r := by
  have kept : (s.recordDamage p t).interface r = ((s.markCell t.cell).damage t.message).interface r :=
    setFlag_interface_other _ p r .data h
  rw [kept, damage_frame]
  rfl

/-! ## The report (R163) -/

theorem captureReport_frame (r : CaptureRecord) :
    s.captureReport r =
      { s with
        overflow := (s.captureReport r).overflow
        capture := (s.captureReport r).capture
        notices := (s.captureReport r).notices } := by
  unfold captureReport
  split
  · rfl
  · rw [raiseToAdmins_frame]

theorem captureReport_of_valid (r : CaptureRecord) (h : s.capture.valid = true) :
    s.captureReport r = { s with overflow := raiseCount s.overflow } := if_pos h

theorem captureReport_of_invalid (r : CaptureRecord) (h : s.capture.valid = false) :
    s.captureReport r = { s with capture := r }.raiseToAdmins (fun _ => true) .capture 0 Reasons.uncorrectable :=
  if_neg (by simp [h])

/-- The report is a CAPTURE notice to every ATTACHED admin port (R120, R163). -/
theorem captureReport_noticeUnit (r : CaptureRecord) (h : s.capture.valid = false) (x : Port) :
    (s.captureReport r).noticeUnit x =
      if s.attachedAdmin x then
        (s.noticeUnit x).taking
          { kind := .capture, source := 0, level := (s.interface x).systemLevel, reasons := 1#3 }
      else s.noticeUnit x := by
  rw [captureReport_of_invalid s r h, raiseToAdmins_noticeUnit]
  simp only [and_true]
  rfl

/-! ## The access -/

variable {s p t} {high : Bool} {data : Word} {strobes : Strobes} {d : BitVec 64}

theorem readReached_uncorrectable (h : s.wordRead t = .uncorrectable d) :
    s.readReached p t high = (s.uncorrectableAccess p t .read).drive p (halfOf high d) := by
  simp only [readReached, h]

theorem writeReached_uncorrectable (h : s.wordRead t = .uncorrectable d) :
    s.writeReached p t high data strobes = s.uncorrectableAccess p t .write := by
  simp only [writeReached, h]

end State

/-- A read and a write that reach an UNCORRECTABLE word differ in the access recorded and in the data driven. -/
theorem exec_window_uncorrectable {s₀ s : State} {u : Upset} {p : Port} {offset : DataOffset} {data : Word}
    {strobes : Strobes} {flips : Flips} {m c : CellNo} {w : WordNo} {d : BitVec 64} (hu : s₀.upset u = s)
    (h : s.reachesCell p offset m c w) (hd : classify (s.cellWord c w ^^^ flips) = .uncorrectable d) {i : Instr}
    {a : Access}
    (hi : i = .windowRead p offset flips u ∧ a = .read ∨ i = .windowWrite p offset data strobes flips u ∧ a = .write)
    {v : State} (hv : (s.flipBits c w flips).uncorrectableAccess p { message := m, cell := c, word := w } a = v) :
    ∃ t, exec i s₀ = .next t ∧ t = { v with interfaces := t.interfaces } ∧
      (∀ r, r ≠ p → t.interface r = v.interface r) ∧
      t.interface p =
        { v.interface p with
          readData :=
            if a = .read then (if offset.toNat % 8 < 4 then d.extractLsb' 0 32 else d.extractLsb' 32 32)
            else (v.interface p).readData } := by
  have read := (s.flipBits_wordRead m c w flips).trans hd
  rcases hi with ⟨rfl, rfl⟩ | ⟨rfl, rfl⟩
  · have executed := exec_windowRead_reaches (flips := flips) hu h
    rw [State.readReached_uncorrectable read, hv, halfOf_highHalf] at executed
    exact ⟨_, executed, rfl, fun r hr => State.drive_interface_other _ p _ r hr, State.drive_interface_same _ p _⟩
  · have executed := exec_windowWrite_reaches (data := data) (strobes := strobes) (flips := flips) hu h
    rw [State.writeReached_uncorrectable read, hv] at executed
    exact ⟨_, executed, rfl, fun r hr => rfl, rfl⟩

/-- Settles O56: the word stays as it is found; `recordDamage` and the report write the rest. -/
theorem uncorrectableAccessMarksTheCell : Obligations.UncorrectableAccessMarksTheCell := by
  intro s₀ s u p offset data strobes flips m c w d r hu h hm hd i a hi
  have up : (s.port p).state ≠ .down := fun hdown => by
    obtain ⟨-, hs, -⟩ := h
    rw [hs] at hdown
    cases hdown
  obtain ⟨t, executed, driven, others, same⟩ := exec_window_uncorrectable hu h hd hi rfl
  rw [State.uncorrectableAccess_eq] at driven others same
  have word := s.flipBits_cellWord c w flips
  have bytes := s.flipBits_otherBytesKept c w flips
  have flipped := s.flipBits_frame c w flips
  generalize s.flipBits c w flips = v at word bytes flipped driven others same
  have vup : (v.port p).state ≠ .down := by
    rw [flipped]
    exact up
  have recorded := v.recordDamage_frame p { message := m, cell := c, word := w }
  have marks := v.recordDamage_marked p { message := m, cell := c, word := w }
  have messages := v.recordDamage_message p { message := m, cell := c, word := w }
  have parity := v.recordDamage_parityErrors p { message := m, cell := c, word := w }
  have count := v.recordDamage_uncorrectable p { message := m, cell := c, word := w }
  have flagged := v.recordDamage_interface_same p { message := m, cell := c, word := w } vup
  have unflagged := v.recordDamage_interface_other p { message := m, cell := c, word := w }
  generalize v.recordDamage p { message := m, cell := c, word := w } = y
    at recorded marks messages parity count flagged unflagged driven others same
  have reported := y.captureReport_frame
    { valid := true, kind := .data, location := c, word := w, agent := .port p, access := a }
  have full := y.captureReport_of_valid
    { valid := true, kind := .data, location := c, word := w, agent := .port p, access := a }
  have taken := y.captureReport_of_invalid
    { valid := true, kind := .data, location := c, word := w, agent := .port p, access := a }
  have units := y.captureReport_noticeUnit
    { valid := true, kind := .data, location := c, word := w, agent := .port p, access := a }
  generalize y.captureReport { valid := true, kind := .data, location := c, word := w, agent := .port p, access := a } = z
    at reported full taken units driven others same
  have flags : ∀ x, z.interface x = y.interface x := fun x => by
    rw [reported]
    rfl
  have level : ∀ x, (y.interface x).systemLevel = (s.interface x).systemLevel := fun x => by
    by_cases hx : x = p
    · rw [hx, flagged, flipped]
      rfl
    · rw [unflagged x hx, flipped]
      rfl
  have kept : y.capture = s.capture ∧ y.notices = s.notices ∧ y.overflow = s.overflow ∧ y.ports = s.ports := by
    rw [recorded, flipped]
    exact ⟨rfl, rfl, rfl, rfl⟩
  obtain ⟨hcapture, hnotices, hoverflow, hports⟩ := kept
  have sameStore : t.store = v.store := by rw [driven, reported, recorded]
  have sameMarks : t.faultMarks = y.faultMarks := by rw [driven, reported]
  have sameMessages : t.messages = y.messages := by rw [driven, reported]
  have sameNotices : t.notices = z.notices := by rw [driven]
  have sameCapture : t.capture = z.capture := by rw [driven]
  have sameOverflow : t.overflow = z.overflow := by rw [driven]
  refine ⟨t, executed, ?_, ?_, fun x => ?_, ?_, fun k hk => ?_, ?_, fun x hx => ?_, ?_, fun hv => ⟨?_, ?_, ?_⟩,
    fun hv => ⟨?_, ?_, fun x => ?_⟩, ?_, ?_⟩
  · rw [← word, State.cellWord, sameStore]
    rfl
  · intro a hd hc
    rw [sameStore]
    exact bytes a hd hc
  · rw [State.marked, sameMarks]
    refine (marks x).trans ?_
    rw [flipped]
    rfl
  · have found := messages m
    rw [if_pos rfl, flipped] at found
    rw [State.message, sameMessages]
    refine found.trans ?_
    exact congrArg (Option.map _) hm
  · have found := messages k
    rw [if_neg hk.symm, flipped] at found
    rw [State.message, sameMessages]
    exact found
  · rw [same, flags, flagged, flipped]
    rfl
  · rw [others x hx, flags, unflagged x hx, flipped]
    rfl
  · have counted : t.uncorrectable = raiseCount s.uncorrectable := by
      rw [driven, reported]
      dsimp only
      rw [count, flipped]
    rw [counted]
    exact raiseCount_toNat (by decide) _
  · rw [sameCapture, full (hcapture ▸ hv), hcapture]
  · rw [sameNotices, full (hcapture ▸ hv), hnotices]
  · rw [sameOverflow, full (hcapture ▸ hv), ← hoverflow]
    exact raiseCount_toNat (by decide) _
  · rw [sameOverflow, taken (hcapture ▸ hv), State.raiseToAdmins_overflow, hoverflow]
  · rw [sameCapture, taken (hcapture ▸ hv), State.raiseToAdmins_capture]
  · have unit : t.noticeUnit x = z.noticeUnit x := by rw [State.noticeUnit, sameNotices]; rfl
    have attached : y.attachedAdmin x = s.attachedAdmin x := by
      rw [recorded, flipped]
      rfl
    have before : y.noticeUnit x = s.noticeUnit x := by rw [State.noticeUnit, hnotices]; rfl
    rw [unit, units (hcapture ▸ hv), attached, before, level]
  · have clean : t.parityErrors = y.parityErrors := by rw [driven, reported]
    rw [clean, parity, flipped]
    rfl
  · rw [driven, reported, recorded, flipped]

end Sys2Proof.Machine
end

section
/-! Proofs/Arbiter.lean: who requests, and the round the arbiter searches. -/

namespace Sys2Proof.Machine

/-! ## Who requests (R69) -/

namespace State

variable (s : State)

theorem requests_port (p : Port) :
    s.requests (.port p) = true ↔ ∃ r, (s.interface p).slot.status = .waiting r := by
  simp only [requests]
  cases (s.interface p).slot.status <;> simp

theorem requests_holdTimer :
    s.requests .holdTimer = true ↔ s.device = .running ∧ ∃ e ∈ s.timeouts, e.due = true := by
  simp only [requests, Bool.and_eq_true, beq_iff_eq, List.any_eq_true]

theorem requests_reclaimUnit : s.requests .reclaimUnit = true ↔ s.device = .running ∧ s.jobs ≠ [] := by
  simp [requests]

end State

/-! ## The round (R70) -/

/-- In a list sorted strictly by `f`, the first that satisfies `q` is the one of least `f`. -/
theorem find?_eq_some_iff_least {α : Type} {l : List α} {q : α → Bool} (f : α → Nat)
    (sorted : (l.map f).Pairwise (· < ·)) (complete : ∀ x, q x = true → x ∈ l) (r : α) :
    l.find? q = some r ↔ q r = true ∧ ∀ x, q x = true → f r ≤ f x := by
  have least : ∀ r, l.find? q = some r → ∀ x, q x = true → f r ≤ f x := fun r hr x hx => by
    obtain ⟨-, as, bs, rfl, before⟩ := List.find?_eq_some_iff_append.mp hr
    have after := (List.pairwise_cons.mp (List.pairwise_append.mp (List.pairwise_map.mp sorted)).2.1).1
    rcases List.mem_append.mp (complete x hx) with mem | mem
    · have := before x mem
      rw [hx] at this
      cases this
    · rcases List.mem_cons.mp mem with rfl | mem
      · exact Nat.le_refl _
      · exact Nat.le_of_lt (after x mem)
  constructor
  · exact fun hr => ⟨List.find?_some hr, least r hr⟩
  · rintro ⟨hr, hmin⟩
    cases found : l.find? q with
    | none => exact absurd hr (List.find?_eq_none.mp found r (complete r hr))
    | some y =>
      have hy := List.find?_some found
      have same : f y = f r := Nat.le_antisymm (least y found r hr) (hmin y hy)
      have distinct : (l.map f).Nodup := sorted.imp Nat.ne_of_lt
      exact congrArg some (List.inj_on_of_nodup_map distinct (complete y hy) (complete r hr) same)

/-- The round lists the requesters in the order of their distances. -/
theorem roundAfter_distances (last : Requester) : (State.roundAfter last).map last.distance = List.range 6 := by
  rcases last with p | _ | _
  · fin_cases p <;> decide
  · decide
  · decide

theorem mem_roundAfter (last x : Requester) : x ∈ State.roundAfter last := by
  have every : ∀ last, [Requester.port 0, .port 1, .port 2, .port 3, .holdTimer, .reclaimUnit] ⊆ State.roundAfter last := by
    rintro (p | _ | _)
    · fin_cases p <;> decide
    · decide
    · decide
  refine every last ?_
  rcases x with p | _ | _
  · fin_cases p <;> decide
  · decide
  · decide

/-- Settles O13: `roundAfter` lists all requesters in the order of `distance`, so the first one found is the nearest. -/
theorem arbiterGrantsTheNextInTheRound : Obligations.ArbiterGrantsTheNextInTheRound := fun s =>
  ⟨s.requests_port, s.requests_holdTimer, s.requests_reclaimUnit,
    find?_eq_some_iff_least s.lastGranted.distance (roundAfter_distances _ ▸ List.pairwise_lt_range)
      (fun x _ => mem_roundAfter _ x),
    by simp [State.granted, mem_roundAfter]⟩

end Sys2Proof.Machine
end

section
/-! Proofs/ParityFaults.lean: an event that meets a control-store entry of mismatched parity halts the device and does no
more. -/

namespace Sys2Proof.Machine

namespace State

variable {s : State} {p : Port} {o : Operands} {e : ControlEntry}

/-! ## Commands -/

/-- A command whose body is its control-store reads before anything else completes HALTED at the first mismatch (R166). -/
theorem takeCommand_fault {c : CommandCode} {body : Operands → State → State} {reads : List ControlEntry}
    (hc : c ≠ .format) (h : s.takes p c o)
    (hb : ∃ effect, body o (s.startCommand p c o) = (s.startCommand p c o).commandReads p reads effect)
    (he : s.firstMismatch reads e) :
    s.takeCommand p c body = (s.haltedBy e .engine).answered p .halted noResults := by
  obtain ⟨effect, reading⟩ := hb
  have found : (s.startCommand p c o).mismatch reads = some e := (s.mismatch_eq_some reads e).2 he
  rw [s.takeCommand_of_takes p c o body hc h, reading, commandReads_fault _ _ _ _ _ found, halt_eq]
  obtain ⟨-, -, hslot⟩ := h
  exact (s.haltedBy e .engine).startCommand_complete p c o .halted noResults hslot

theorem allocateBody_reads {i : SlotNo} {m : CellNo} (h : allocateCheck s p o.cellCount = .ok (i, m)) :
    ∃ effect, allocateBody p o s = s.commandReads p (s.takeCellsReads o.cellCount) effect := by
  simp only [allocateBody, h]
  exact ⟨_, rfl⟩

theorem putBody_reads {i : SlotNo} {q : QueueNo} (h : putCheck s p o = .ok (i, q)) :
    ∃ effect, putBody p o s = s.commandReads p (putReads s p i q o.listEnd) effect := by
  simp only [putBody, h]
  exact ⟨_, rfl⟩

theorem takeBody_reads {q : QueueNo} {i : SlotNo} {m : CellNo} (h : takeCheck s p o = .ok (q, i, m)) :
    ∃ effect, takeBody p o s = s.commandReads p [.record m] effect := by
  simp only [takeBody, h]
  exact ⟨_, rfl⟩

/-- Past the record and the quota, a TAKE reads the entries of the unlinking. -/
theorem takeBody_unlinkReads {q : QueueNo} {i : SlotNo} {m : CellNo} (h : takeCheck s p o = .ok (q, i, m))
    (hr : s.readsClear [.record m]) (hq : s.heldCells p + (s.messageCells m).length ≤ (s.port p).quota) :
    ∃ effect, takeBody p o s = s.commandReads p (s.unlinkReads q o.listEnd) effect := by
  simp only [takeBody, h, s.commandReads_clear _ _ _ ((s.mismatch_eq_none _).2 hr), if_neg (Nat.not_lt.2 hq)]
  exact ⟨_, rfl⟩

theorem releaseBody_reads {i : SlotNo} {m : CellNo} (hi : s.names p o.handle i)
    (hm : (s.slot p i).holding.message? = some m) :
    ∃ effect, releaseBody p o s = s.commandReads p (s.freeReads m) effect := by
  simp only [releaseBody, (s.validHandle_eq_some p o.handle i).2 hi, hm]
  exact ⟨_, rfl⟩

theorem returnBody_freeReads {i : SlotNo} {m : CellNo} {c : Nat} {f : TakenFields} (hi : s.names p o.handle i)
    (hh : (s.slot p i).holding = .taken m c f) (hf : f.source = none) :
    ∃ effect, returnBody p o s = s.commandReads p (s.freeReads m) effect := by
  simp only [returnBody, (s.validHandle_eq_some p o.handle i).2 hi, hh, hf]
  exact ⟨_, rfl⟩

theorem returnBody_returnReads {i : SlotNo} {m : CellNo} {c : Nat} {f : TakenFields} {q : QueueNo}
    (hi : s.names p o.handle i) (hh : (s.slot p i).holding = .taken m c f) (hf : f.source = some q) :
    ∃ effect, returnBody p o s = s.commandReads p (s.returnReads q m) effect := by
  simp only [returnBody, (s.validHandle_eq_some p o.handle i).2 hi, hh, hf]
  exact ⟨_, rfl⟩

theorem firstMismatch_singleton (h : e ∈ s.parityErrors) : s.firstMismatch [e] e :=
  ⟨[], [], rfl, by simp [readsClear], h⟩

/-! ## The hold timer and the reclaim unit -/

/-- A step that the hold timer or the reclaim unit makes halts at the first mismatch, and completes nothing (R166). -/
theorem requestReads_fault {reads : List ControlEntry} (a : Agent) (effect : State → State)
    (he : s.firstMismatch reads e) : s.requestReads a reads effect = s.haltedBy e a := by
  rw [← halt_eq, requestReads, (s.mismatch_eq_some reads e).2 he]

theorem expire_fault {x : TimeoutEntry} {m : CellNo} {c : Nat} {f : TakenFields} {q : QueueNo}
    (hh : (s.slot x.port x.slot).holding = .taken m c f) (hf : f.source = some q)
    (he : s.firstMismatch (s.returnReads q m) e) : s.expire x = s.haltedBy e .engine := by
  simp only [expire, hh, hf]
  exact requestReads_fault _ _ he

theorem portStep_fault {x : SettleState} {i : SlotNo} (hi : s.reclaimChoice p = some i)
    (he : s.firstMismatch (s.reclaimReads (s.slot p i).holding) e) : s.portStep p x = s.haltedBy e .reclaimUnit := by
  simp only [portStep, hi]
  exact requestReads_fault _ _ he

theorem queueStep_fault {q : QueueNo} {m : CellNo} (delete : Bool) (hm : (s.queue q).head? = some m)
    (he : s.firstMismatch (s.freeReads m) e) : s.queueStep q delete = s.haltedBy e .reclaimUnit := by
  simp only [queueStep, hm]
  exact requestReads_fault _ _ he

/-- A grant is recorded whether it is made before the halt or after. -/
theorem grantTo_haltedBy (r : Requester) (a : Agent) :
    (s.grantTo r).haltedBy e a = { s.haltedBy e a with lastGranted := r } := rfl

end State

/-- Settles O14: each body and each step is its control-store reads first, in the order of its `…Reads` list. -/
theorem parityFaultHaltsWithNoOtherEffect : Obligations.ParityFaultHaltsWithNoOtherEffect := by
  intro s₀ s u p o e hu
  refine ⟨fun i m h hx he => ?_, fun i q h hx he => ?_, fun q i m h hx he => ?_, fun i m h hi hm he => ?_,
    fun i m c f h hi hh he => ?_, fun x m c f q hg hd hh hf he => ?_, fun r d i js hg hj hi he => ?_,
    fun q m js hg hj hm he => ?_⟩
  · rw [exec_allocate, hu, State.takeCommand_fault (by decide) h (State.allocateBody_reads hx) he]
  · rw [exec_put, hu, State.takeCommand_fault (by decide) h (State.putBody_reads hx) he]
  · rw [exec_take, hu]
    rcases he with ⟨rfl, mem⟩ | ⟨clear, quota, he⟩
    · rw [State.takeCommand_fault (by decide) h (State.takeBody_reads hx) (State.firstMismatch_singleton mem)]
    · rw [State.takeCommand_fault (by decide) h (State.takeBody_unlinkReads hx clear quota) he]
  · rw [exec_release, hu, State.takeCommand_fault (by decide) h (State.releaseBody_reads hi hm) he]
  · rw [exec_giveBack, hu]
    cases hf : f.source with
    | none =>
      rw [hf] at he
      rw [State.takeCommand_fault (by decide) h (State.returnBody_freeReads hi hh hf) he]
    | some q =>
      rw [hf] at he
      rw [State.takeCommand_fault (by decide) h (State.returnBody_returnReads hi hh hf) he]
  · rw [exec_expiry, hu, State.timerGrant_eq hg hd, State.expire_fault (s := s.grantTo .holdTimer) hh hf he,
      State.grantTo_haltedBy]
  · rw [exec_portJobStep hu hg hj, State.portStep_fault (s := s.grantTo .reclaimUnit) hi he, State.grantTo_haltedBy]
  · obtain ⟨delete, job⟩ : ∃ delete : Bool, s.jobs = (if delete then .delete q else .purge q) :: js := by
      rcases hj with hj | hj
      · exact ⟨false, hj⟩
      · exact ⟨true, hj⟩
    rw [exec_queueWalkStep hu hg job, State.queueStep_fault (s := s.grantTo .reclaimUnit) delete hm he,
      State.grantTo_haltedBy]

end Sys2Proof.Machine
end

section
/-! Proofs/FormatVisit.lean: what the format walk makes of one cell. -/

namespace Sys2Proof.Machine

namespace State

variable (s : State)

/-! ## The format writes of a cell (R16) -/

/-- Words of one cell written one after the other: each reads as written, the others as before. -/
theorem foldl_setCellWord_cellWord (c : CellNo) (v : WordNo → CellWord) (l : List WordNo) (k : WordNo) :
    (l.foldl (fun t w => t.setCellWord c w (v w)) s).cellWord c k = if k ∈ l then v k else s.cellWord c k := by
  induction l generalizing s with
  | nil => rfl
  | cons w l ih =>
    rw [List.foldl_cons, ih]
    by_cases hl : k ∈ l
    · rw [if_pos hl, if_pos (List.mem_cons_of_mem w hl)]
    · by_cases hw : k = w
      · rw [if_neg hl, hw, if_pos List.mem_cons_self, cellWord_setCellWord_same]
      · rw [if_neg hl, if_neg (by simp [hw, hl]), cellWord_setCellWord_other s c c w k _ (.inr hw)]

/-- A byte outside every word of the cell reads as before. -/
theorem foldl_setCellWord_read (c : CellNo) (v : WordNo → CellWord) (l : List WordNo) (a : Nat)
    (hd : ∀ w, a < dataAddress c w 0 ∨ dataAddress c w 0 + 8 ≤ a) (hc : ∀ w, a ≠ checkAddress c w) :
    Memory.read (l.foldl (fun t w => t.setCellWord c w (v w)) s).store a = Memory.read s.store a := by
  induction l generalizing s with
  | nil => rfl
  | cons w l ih =>
    rw [List.foldl_cons, ih]
    exact s.setCellWord_otherBytesKept c w _ a (hd w) (hc w)

theorem wordNo_mem_all (k : WordNo) : k ∈ WordNo.all := by
  revert k
  decide

theorem formatCell_cellWord (c : CellNo) (flips : Vector Flips 8) (k : WordNo) :
    (s.formatCell c flips).cellWord c k = encodeWord 0 ^^^ flips[k] :=
  (s.foldl_setCellWord_cellWord c (verifyRead flips) WordNo.all k).trans (if_pos (wordNo_mem_all k))

/-- The bytes of a cell are 64 data bytes and 8 check bytes (R1); the format writes touch no others. -/
theorem formatCell_read (c : CellNo) (flips : Vector Flips 8) (a : Nat) (hd : a < 64 * c.val ∨ 64 * c.val + 64 ≤ a)
    (hc : a < 262144 + 8 * c.val ∨ 262144 + 8 * c.val + 8 ≤ a) :
    Memory.read (s.formatCell c flips).store a = Memory.read s.store a := by
  refine s.foldl_setCellWord_read c (verifyRead flips) WordNo.all a (fun w => ?_) (fun w => ?_)
  · have := w.isLt
    simp only [dataAddress]
    omega
  · have := w.isLt
    simp only [checkAddress]
    omega

theorem verifies_iff (flips : Vector Flips 8) :
    verifies flips = true ↔ ∀ k : WordNo, classify (encodeWord 0 ^^^ flips[k]) = .clean 0 := by
  simp [verifies, wordNo_mem_all, verifyRead]

/-! ## The visit (R16, R19) -/

variable {s} {w : FormatWalk} {c : CellNo} {flips : Vector Flips 8}

/-- A completion writes one interface: the discard mark leaves the words out (R65, R72). -/
theorem complete_eq (p : Port) (x : OutcomeCode) (rs : Results) :
    s.complete p x rs =
      { s with
        interfaces := s.interfaces.set p
          (if (s.interface p).slot.discard then { s.interface p with slot := { status := .idle, discard := false } }
          else (s.interface p).afterCompletion x rs) } := by
  unfold complete
  split
  · rfl
  · simp [idleSlot, writeOutcome, PortInterface.afterCompletion, setInterface, interface, CommandSlot.idle,
      Vector.set_set]

theorem visitCell_fault {x : CellNo} (hv : verifies flips = true) (hx : s.freeList.getLast? = some x)
    (he : .link x ∈ s.parityErrors) :
    s.visitCell w c flips = { s.haltedBy (.link x) .engine with walk := none }.complete w.issuer .halted noResults := by
  have found := (s.mismatch_eq_some _ _).2 (firstMismatch_singleton he)
  simp only [visitCell, hv, hx, Option.toList_some, List.map_cons, List.map_nil, found, halt_eq, if_true]

theorem visitCell_verified (hv : verifies flips = true)
    (he : ∀ x, s.freeList.getLast? = some x → .link x ∉ s.parityErrors) :
    s.visitCell w c flips = ((s.formatCell c flips).appendCell c).walkNext w := by
  have clear : s.mismatch (s.freeList.getLast?.toList.map .link) = none := by
    refine (s.mismatch_eq_none _).2 fun e mem => ?_
    obtain ⟨x, hx, rfl⟩ := List.mem_map.1 mem
    exact he x (Option.mem_toList.1 hx)
  simp only [visitCell, hv, clear, if_true]

theorem visitCell_failed (hv : verifies flips = false) :
    s.visitCell w c flips =
      { ((s.formatCell c flips).markCell c).retireCell c with formatRetired := s.formatRetired + 1 }.walkNext w := by
  simp only [visitCell, hv, Bool.false_eq_true, if_false]

end State

theorem exec_formatWalkCell {s₀ s : State} {u : Upset} {flips : Vector Flips 8} {w : FormatWalk} {c : CellNo}
    (hu : s₀.upset u = s) (hd : s.device = .formatting) (hw : s.walk = some w) (hc : w.next = c.val) :
    exec (.formatWalkCell flips u) s₀ = .next (s.visitCell w c flips) := by
  have formatting : s₀.device = .formatting := by rw [← s₀.upset_device u, hu, hd]
  have walk : s₀.walk = some w := by rw [← s₀.upset_walk u, hu, hw]
  have inside : w.next < 4096 := by rw [hc]; exact c.isLt
  have here : (⟨w.next, inside⟩ : CellNo) = c := Fin.ext hc
  have executed : exec (.formatWalkCell flips u) s₀ = execFormatWalkCell flips u s₀ := rfl
  rw [executed, execFormatWalkCell, if_pos formatting, walk]
  dsimp only
  rw [dif_pos inside, here, hu]

/-- Settles O21: the visit's three outcomes, the eight words of the cell being those the verify reads find. -/
theorem formatWalkSortsTheCellOrHalts : Obligations.FormatWalkSortsTheCellOrHalts := by
  intro s₀ s u flips w c hu hd hw hc
  refine ⟨verifies flips, State.verifies_iff flips, fun x hv hx he => ?_, fun he => ⟨_, exec_formatWalkCell hu hd hw hc, ?_⟩⟩
  · rw [exec_formatWalkCell hu hd hw hc, State.visitCell_fault hv hx he, State.complete_eq]
    rfl
  · have words := s.formatCell_cellWord c flips
    have bytes := s.formatCell_read c flips
    have frame := s.formatCell_frame c flips
    cases hv : verifies flips with
    | true =>
      rw [State.visitCell_verified hv (he hv)]
      generalize s.formatCell c flips = v at words bytes frame
      have freed : v.freeList = s.freeList := by rw [frame]
      have parity : v.parityErrors = s.parityErrors := by rw [frame]
      have retired : v.retired = s.retired := by rw [frame]
      have marks : v.faultMarks = s.faultMarks := by rw [frame]
      refine ⟨words, bytes, congrArg (· ++ [c]) freed, fun x => ?_, fun x => ?_, ?_, rfl, ?_, ?_⟩
      · rw [← retired]
        exact ⟨.inl, fun h => h.resolve_right fun failed => nomatch failed.1⟩
      · rw [State.marked, State.marked, ← marks]
        exact ⟨.inl, fun h => h.resolve_right fun failed => nomatch failed.1⟩
      · rw [frame]
        rfl
      · rw [State.parityWithout, ← parity]
        exact State.writeEntry_parityErrors { v with freeList := v.freeList ++ [c] } (.link c)
      · rw [frame]
        rfl
    | false =>
      rw [State.visitCell_failed hv]
      generalize s.formatCell c flips = v at words bytes frame
      have retired : v.retired = s.retired := by rw [frame]
      have marks : v.faultMarks = s.faultMarks := by rw [frame]
      refine ⟨words, bytes, ?_, fun x => ?_, fun x => ?_, rfl, rfl, ?_, ?_⟩
      · rw [frame]
        rfl
      · rw [← retired]
        refine (State.mem_insertCell c x v.retired).trans ?_
        simp [or_comm]
      · rw [State.marked, State.marked, ← marks, List.contains_iff_mem, List.contains_iff_mem]
        refine (State.mem_insertCell c x v.faultMarks).trans ?_
        simp [or_comm]
      · rw [frame]
        rfl
      · rw [frame]
        rfl

end Sys2Proof.Machine
end

section
/-! Proofs/CheckCode.lean: the check code read off its columns: the syndrome is linear in the stored bits. -/

namespace Sys2Proof.Machine

/-! ## The columns of the 72 bits (R2) -/

/-- The columns of the syndrome, data bits first, then check bits (R2). -/
def syndromeColumns : List Byte := Config.checkCode.columns ++ Config.checkColumns

/-- The column of one of the 72 stored bits. -/
def bitColumn (i : Nat) : Byte := syndromeColumns.getD i 0

theorem syndromeColumns_length : syndromeColumns.length = 72 := by
  rw [syndromeColumns, List.length_append, Config.checkCode.length_eq]
  rfl

theorem bitColumn_eq_getElem {i : Nat} (h : i < 72) :
    bitColumn i = syndromeColumns[i]'(by rwa [syndromeColumns_length]) :=
  List.getD_eq_getElem _ _ _

theorem bitColumn_mem {i : Nat} (h : i < 72) : bitColumn i ∈ syndromeColumns := by
  rw [bitColumn_eq_getElem h]
  exact List.getElem_mem _

theorem bitColumn_data {i : Nat} (h : i < 64) :
    bitColumn i = Config.checkCode.columns[i]'(by rwa [Config.checkCode.length_eq]) := by
  have inside : i < Config.checkCode.columns.length := by rwa [Config.checkCode.length_eq]
  rw [bitColumn, syndromeColumns, List.getD_append _ _ _ _ inside, List.getD_eq_getElem _ _ inside]

theorem bitColumn_check {k : Nat} (h : k < 8) : bitColumn (64 + k) = Config.checkColumns[k]'h := by
  rw [bitColumn, syndromeColumns, List.getD_append_right _ _ _ _ (by rw [Config.checkCode.length_eq]; omega),
    Config.checkCode.length_eq, Nat.add_sub_cancel_left, List.getD_eq_getElem _ _ h]

theorem checkColumns_getElem {k : Nat} (h : k < 8) : Config.checkColumns[k]'h = 1#8 <<< k := by
  revert k
  decide

theorem bitColumn_ne_zero {i : Nat} (h : i < 72) : bitColumn i ≠ 0 := fun zero =>
  Config.checkCode.lawful.1 (zero ▸ bitColumn_mem h)

/-- The law of R2 by bit numbers: two bits have different columns, and the sum of the columns is none of the 72. -/
theorem bitColumn_lawful {i j : Nat} (hi : i < 72) (hj : j < 72) (h : i ≠ j) :
    bitColumn i ≠ bitColumn j ∧ bitColumn i ^^^ bitColumn j ∉ syndromeColumns := by
  have ordered : ∀ {i j : Nat}, i < j → j < 72 →
      bitColumn i ≠ bitColumn j ∧ bitColumn i ^^^ bitColumn j ∉ syndromeColumns := fun {i j} hlt hj => by
    have hi := Nat.lt_trans hlt hj
    rw [bitColumn_eq_getElem hi, bitColumn_eq_getElem hj]
    exact List.pairwise_iff_getElem.1 Config.checkCode.lawful.2 _ _ _ _ hlt
  rcases Nat.lt_or_gt_of_ne h with hlt | hlt
  · exact ordered hlt hj
  · obtain ⟨distinct, unlisted⟩ := ordered hlt hi
    exact ⟨distinct.symm, by rwa [BitVec.xor_comm]⟩

/-! ## The syndrome is linear -/

theorem ite_xor (a b : Bool) (column : Byte) :
    (if a ^^ b then column else 0) = (if a then column else 0) ^^^ (if b then column else 0) := by
  cases a <;> cases b <;> simp

theorem sumColumns_xor (a b : BitVec 64) (n : Nat) : sumColumns (a ^^^ b) n = sumColumns a n ^^^ sumColumns b n := by
  induction n with
  | zero => exact BitVec.xor_self.symm
  | succ n ih =>
    simp only [sumColumns, ih, BitVec.getLsbD_xor, ite_xor]
    ac_rfl

/-- One data bit's column is summed where the sum reaches the bit. -/
theorem sumColumns_bit {i : Nat} (hi : i < 64) (n : Nat) :
    sumColumns (1#64 <<< i) n = if i < n then Config.checkCode.columns.getD i 0 else 0 := by
  induction n with
  | zero => rfl
  | succ n ih =>
    have bit : (1#64 <<< i).getLsbD n = decide (i = n) := by
      rw [← BitVec.twoPow_eq, BitVec.getLsbD_twoPow, decide_eq_true hi, Bool.true_and]
    rw [sumColumns, ih, bit]
    by_cases h : i = n
    · simp [h]
    · have step : i < n + 1 ↔ i < n := by omega
      simp [h, step]

theorem payload_xor (v x : CellWord) : CellWord.payload (v ^^^ x) = CellWord.payload v ^^^ CellWord.payload x :=
  BitVec.extractLsb'_xor

theorem syndrome_xor (v x : CellWord) : syndrome (v ^^^ x) = syndrome v ^^^ syndrome x := by
  have check : CellWord.check (v ^^^ x) = CellWord.check v ^^^ CellWord.check x := BitVec.extractLsb'_xor
  rw [syndrome, payload_xor, check, checkByte, sumColumns_xor, syndrome, syndrome, checkByte, checkByte]
  ac_rfl

theorem encodeWord_payload (d : BitVec 64) : CellWord.payload (encodeWord d) = d :=
  BitVec.extractLsb'_append_eq_right

theorem encodeWord_check (d : BitVec 64) : CellWord.check (encodeWord d) = checkByte d :=
  BitVec.extractLsb'_append_eq_left

theorem syndrome_encodeWord (d : BitVec 64) : syndrome (encodeWord d) = 0 := by
  rw [syndrome, encodeWord_payload, encodeWord_check]
  exact BitVec.xor_self

/-- A check bit shifts out of the data bits, where it leaves zero. -/
theorem payload_bit (i : Nat) : CellWord.payload (1#72 <<< i) = 1#64 <<< i := by
  ext k hk
  have inside : k < 72 := by omega
  simp [CellWord.payload, inside]

theorem check_dataBit {i : Nat} (h : i < 64) : CellWord.check (1#72 <<< i) = 0 := by
  ext j hj
  rw [CellWord.check, BitVec.getElem_extractLsb', ← BitVec.twoPow_eq, BitVec.getLsbD_twoPow]
  have apart : i ≠ 64 + j := by omega
  simp [apart]

theorem check_checkBit {k : Nat} (h : k < 8) : CellWord.check (1#72 <<< (64 + k)) = 1#8 <<< k := by
  ext j hj
  rw [CellWord.check, BitVec.getElem_extractLsb', ← BitVec.twoPow_eq, ← BitVec.twoPow_eq, BitVec.getLsbD_twoPow,
    BitVec.getElem_twoPow]
  have inside : 64 + k < 72 := by omega
  simp [inside, eq_comm]

theorem syndrome_bit {i : Nat} (h : i < 72) : syndrome (1#72 <<< i) = bitColumn i := by
  rw [syndrome, payload_bit]
  by_cases data : i < 64
  · have inside : i < Config.checkCode.columns.length := by rwa [Config.checkCode.length_eq]
    rw [check_dataBit data, checkByte, sumColumns_bit data, if_pos data, bitColumn_data data,
      List.getD_eq_getElem _ _ inside]
    exact BitVec.xor_zero
  · obtain ⟨k, rfl⟩ : ∃ k, i = 64 + k := ⟨i - 64, by omega⟩
    have shifted : 1#64 <<< (64 + k) = 0 := BitVec.shiftLeft_eq_zero (by omega)
    have check : k < 8 := by omega
    rw [shifted, checkByte_zero, check_checkBit check, bitColumn_check check, checkColumns_getElem check]
    exact BitVec.zero_xor

/-! ## The classes -/

section Classes

variable {v : CellWord} {i : Nat}

theorem classify_of_zero (h : syndrome v = 0) : classify v = .clean (CellWord.payload v) := if_pos h

/-- A data bit's column is no check bit's, and no earlier data bit's. -/
theorem findIdx?_bitColumn (data : i < 64) :
    Config.checkColumns.contains (bitColumn i) = false ∧
      Config.checkCode.columns.findIdx? (fun col => col == bitColumn i) = some i := by
  have inside : i < Config.checkCode.columns.length := by rwa [Config.checkCode.length_eq]
  have column := bitColumn_data data
  constructor
  · have distinct : syndromeColumns.Nodup := Config.checkCode.lawful.2.imp And.left
    have apart := List.disjoint_of_nodup_append distinct (column ▸ List.getElem_mem inside)
    simpa using apart
  · refine List.findIdx?_eq_some_iff_getElem.2 ⟨inside, beq_iff_eq.2 column.symm, fun j hj same => ?_⟩
    have before := bitColumn_data (Nat.lt_trans hj data)
    rw [beq_iff_eq, ← before] at same
    exact (bitColumn_lawful (by omega) (by omega) (Nat.ne_of_lt hj)).1 same

/-- A syndrome that is one bit's column turns that bit over, if it is a data bit. -/
theorem classify_of_bitColumn (hi : i < 72) (h : syndrome v = bitColumn i) :
    classify v = .corrected (CellWord.payload v ^^^ 1#64 <<< i) := by
  have nonzero : bitColumn i ≠ 0 := bitColumn_ne_zero hi
  by_cases data : i < 64
  · obtain ⟨unchecked, found⟩ := findIdx?_bitColumn data
    simp only [classify, h, if_neg nonzero, unchecked, found, Bool.false_eq_true, if_false]
  · obtain ⟨k, rfl⟩ : ∃ k, i = 64 + k := ⟨i - 64, by omega⟩
    have check : k < 8 := by omega
    have checked : Config.checkColumns.contains (bitColumn (64 + k)) = true :=
      List.contains_iff_mem.2 (bitColumn_check check ▸ List.getElem_mem check)
    have shifted : 1#64 <<< (64 + k) = 0#64 := BitVec.shiftLeft_eq_zero (by omega)
    simp only [classify, h, if_neg nonzero, checked, if_true, shifted, BitVec.xor_zero]

theorem classify_of_unlisted (hz : syndrome v ≠ 0) (h : syndrome v ∉ syndromeColumns) :
    classify v = .uncorrectable (CellWord.payload v) := by
  rw [syndromeColumns, List.mem_append, not_or] at h
  obtain ⟨data, check⟩ := h
  have unchecked : Config.checkColumns.contains (syndrome v) = false := by simp [check]
  have unfound : Config.checkCode.columns.findIdx? (fun col => col == syndrome v) = none := by
    rw [List.findIdx?_eq_none_iff]
    intro col mem
    exact beq_eq_false_iff_ne.2 fun e => data (e ▸ mem)
  simp only [classify, if_neg hz, unchecked, unfound, Bool.false_eq_true, if_false]

end Classes

/-- Settles O15: the syndrome of a word with bits turned over is the sum of their columns. -/
theorem singleBitErrorsAreCorrectedAndDoubleDetected : Obligations.SingleBitErrorsAreCorrectedAndDoubleDetected := by
  intro d
  refine ⟨?_, fun i hi => ?_, fun i j hi hj h => ?_⟩
  · rw [classify_of_zero (syndrome_encodeWord d), encodeWord_payload]
  · have single : syndrome (encodeWord d ^^^ 1#72 <<< i) = bitColumn i := by
      rw [syndrome_xor, syndrome_encodeWord, syndrome_bit hi]
      exact BitVec.zero_xor
    have payload : CellWord.payload (encodeWord d ^^^ 1#72 <<< i) = d ^^^ 1#64 <<< i := by
      rw [payload_xor, encodeWord_payload, payload_bit]
    rw [classify_of_bitColumn hi single, payload, BitVec.xor_assoc, BitVec.xor_self, BitVec.xor_zero]
  · have double : syndrome (encodeWord d ^^^ 1#72 <<< i ^^^ 1#72 <<< j) = bitColumn i ^^^ bitColumn j := by
      rw [syndrome_xor, syndrome_xor, syndrome_encodeWord, syndrome_bit hi, syndrome_bit hj]
      exact congrArg (· ^^^ bitColumn j) BitVec.zero_xor
    obtain ⟨distinct, unlisted⟩ := bitColumn_lawful hi hj h
    refine classify_of_unlisted ?_ (double ▸ unlisted)
    rw [double]
    exact fun zero => distinct (BitVec.xor_eq_zero_iff.1 zero)

end Sys2Proof.Machine
end
